-- ==== Sys2Proof/Word.lean ====
section
/-! DEFINITION. Word types of the part: a byte of the ring, a 32-bit word of the local port and of the counters, a control payload. -/

namespace Sys2Proof

/-- One byte of a ring stream or of a control payload. -/
abbrev Byte := BitVec 8

/-- "A word is 32 bits" (00_scope.md, 8). -/
abbrev Word := BitVec 32

/-- The 28 payload bytes of a cell, payload byte 0 in the most significant byte. -/
abbrev Payload := BitVec 224

end Sys2Proof
end

