-- ==== Sys2Proof/Config.lean ====
section
/-! DEFINITION. What the spec fixes for every LG-2416 of the revision it describes: the capacities, the run lengths of
delineation and the identity codes. The spec leaves no value open for which the model needs a free constant. -/

namespace Sys2Proof.Config

/-- R51: the Buffer Pool holds 512 cell buffers. -/
abbrev poolBuffers : Nat := 512

/-- R112: the add side holds four staging slots. -/
abbrev stagingSlots : Nat := 4

/-- R125: intake holds 0..4 command cells. -/
abbrev intakePlaces : Nat := 4

/-- R127: the control egress queue holds 0..8 CONTROL cells. -/
abbrev controlEgressPlaces : Nat := 8

/-- R97: the good run at which the receiver enters SYNC. -/
abbrev goodRunForSync : Nat := 6

/-- R98: the bad run at which the receiver returns to HUNT. -/
abbrev badRunForHunt : Nat := 7

/-- R95: bytes from the end of one header to the end of the next. -/
abbrev cellBytes : Nat := 32

/-- R132: "A timer does not rise above 65535." -/
abbrev idleTimerMax : Nat := 65535

/-- R182: vendor code. -/
def vendorCode : BitVec 16 := 0x3A1C#16

/-- R182: part code. -/
def partCode : BitVec 16 := 0x2416#16

/-- R182: revision. -/
def revision : BitVec 8 := 0x01#8

end Sys2Proof.Config
end

