-- ==== Sys2Proof/Syntax.lean ====
section
/-! DEFINITION. The cells the part exchanges, the fourteen event flags, and the commands: one constructor of `Instr` for each
row of spec/opcode_table.json. -/

namespace Sys2Proof

/-- R178, R100: the eight values of the 3-bit kind field, four named and four unknown. -/
inductive Kind where
  | idle | data | control | mark
  | unknown4 | unknown5 | unknown6 | unknown7
  deriving DecidableEq, Repr

/-- R178: the header fields of a cell, less its header check. -/
structure Header where
  kind  : Kind
  label : BitVec 12
  hop   : BitVec 4
  de    : Bool
  tag   : BitVec 4
  deriving DecidableEq, Repr

/-- A whole cell as it stands on the ring or on the local port: the 32-bit header with its check byte, and the payload. -/
structure RawCell where
  header  : Word
  payload : Payload
  deriving DecidableEq, Repr

/-- R179: the fields of a control payload, less CHECK. DATA is held as one 128-bit quantity, DATA word 0 the most significant. -/
structure Control where
  dest   : Byte
  src    : Byte
  seq    : Byte
  op     : Byte
  flags  : Byte
  status : Byte
  arg    : Byte
  count  : Byte
  index  : BitVec 16
  data   : BitVec 128
  deriving DecidableEq, Repr

/-- R162: the fourteen event flags. -/
inductive EventFlag where
  | syncLost | syncGained | headerError | hopExpired | unknownLabel | poolEmpty | queueFull | dropFull
  | addRefused | controlLost | calendarSwapped | streamRetired | sessionEnded | restarted
  deriving DecidableEq, Repr

/-- The steps of the part, one constructor for each row of the opcode table. The operands are what the step takes from outside
the part: pin levels, received bytes, strobed words. An execution of an intake command has no operand here, because its fields stand
in the cell at the head of intake (R126). Where a step takes an event that another step handed over, the operand says which
one: `at_ = none` takes a source event at every meter it is on its way to, `at_ = some m` at meter `m` alone. -/
inductive Instr where
  /-- R105: power-up, or assertion of the reset pin. -/
  | powerOn
  /-- R101: release of the reset pin with these levels at the strap pins. -/
  | resetPinRelease (straps : BitVec 6)
  /-- R96: a byte is received in HUNT. -/
  | huntWindowTest (byte : Byte)
  /-- R97, R98: the four bytes that end at the boundary are received. -/
  | headerTest (header : Word)
  /-- R99, R100: the 28 payload bytes of the arriving cell are received. -/
  | ringCellArrival (payload : Payload)
  /-- R29: the oldest slot source event on its way is taken. -/
  | slotSourceEvent (at_ : Option Nat)
  /-- R30: the oldest MARK source event for `label` on its way is taken. -/
  | markSourceEvent (label : Nat) (at_ : Option Nat)
  /-- R31: the oldest cascade source event from an expiry of meter `origin` on its way is taken. -/
  | cascadeSourceEvent (origin : Nat) (at_ : Option Nat)
  /-- R32: a source event on its way to meter `meter` is taken there and the meter expires. -/
  | meterExpiry (meter : Nat)
  /-- R113: a word strobed with ADD_FIRST high. -/
  | addWordFirst (word : Word)
  /-- R114: a word strobed with ADD_FIRST low. -/
  | addWordContinue (word : Word)
  | localCellArrival
  | dropTake
  | slotEvent
  | sessionTick
  | sessionExpiry
  | eventUnitTick
  | reportTimeout
  /-- R107: the last byte of the slot's cell leaves the part; `straps` are the levels at the strap pins, which a RESTART ALL taking
  effect in this event samples (R101). -/
  | slotCompletion (straps : BitVec 6)
  | reportSendingComplete
  /-- R162: an occurrence of `flag` handed to the Event Unit is taken there. -/
  | eventFlagSet (flag : EventFlag)
  | reportBuild
  | reportIssue
  | badOp
  | discover
  | openSession
  | closeSession
  | ping
  | claim
  | release
  | set
  | get
  | status
  | restart
  | streamAdd
  | streamSet
  | streamRemove
  | streamRead
  | streamFind
  | meterSet
  | meterRead
  | meterHold
  | meterRun
  | meterReload
  | queueSet
  | queueRead
  | calWrite
  | calLength
  | calCopy
  | calRead
  | calCommit
  | calCancel
  | snapTake
  | snapRead
  | snapRelease
  | eventRead
  | eventClear
  | reportAck
  | reportRearm
  deriving DecidableEq, Repr

end Sys2Proof
end

