-- ==== Sys2Proof/WellFormed.lean ====
section
/-! DEFINITION. The checks on a command's operands: a MARK label and a meter index in the ranges of R27. -/

namespace Sys2Proof

/-- A meter index operand, where one is given, names one of the 128 meters (R27). -/
def Instr.meterInRange : Option Nat → Bool
  | none => true
  | some m => decide (m < 128)

/-- A command is well formed when every label operand is 0..4095 and every meter operand is 0..127 (R27). -/
def Instr.wellFormed : Instr → Bool
  | .slotSourceEvent m => Instr.meterInRange m
  | .markSourceEvent label m => decide (label < 4096) && Instr.meterInRange m
  | .cascadeSourceEvent origin m => decide (origin < 128) && Instr.meterInRange m
  | .meterExpiry m => decide (m < 128)
  | .powerOn => true
  | .resetPinRelease _ => true
  | .huntWindowTest _ => true
  | .headerTest _ => true
  | .ringCellArrival _ => true
  | .addWordFirst _ => true
  | .addWordContinue _ => true
  | .localCellArrival => true
  | .dropTake => true
  | .slotEvent => true
  | .sessionTick => true
  | .sessionExpiry => true
  | .eventUnitTick => true
  | .reportTimeout => true
  | .slotCompletion _ => true
  | .reportSendingComplete => true
  | .eventFlagSet _ => true
  | .reportBuild => true
  | .reportIssue => true
  | .badOp => true
  | .discover => true
  | .openSession => true
  | .closeSession => true
  | .ping => true
  | .claim => true
  | .release => true
  | .set => true
  | .get => true
  | .status => true
  | .restart => true
  | .streamAdd => true
  | .streamSet => true
  | .streamRemove => true
  | .streamRead => true
  | .streamFind => true
  | .meterSet => true
  | .meterRead => true
  | .meterHold => true
  | .meterRun => true
  | .meterReload => true
  | .queueSet => true
  | .queueRead => true
  | .calWrite => true
  | .calLength => true
  | .calCopy => true
  | .calRead => true
  | .calCommit => true
  | .calCancel => true
  | .snapTake => true
  | .snapRead => true
  | .snapRelease => true
  | .eventRead => true
  | .eventClear => true
  | .reportAck => true
  | .reportRearm => true

end Sys2Proof
end

