-- ==== Sys2Proof/Decode.lean ====
section
/-! DEFINITION. The bit layouts a bus partner sees: header and control payload, with the two checks, and the words of a cell at
the local port. Also `decodeTableWord`: the opcode table gives no row any bits, so no word spells a command. -/

namespace Sys2Proof

/-- One bit of the header check's division: generator x^8 + x^6 + x^3 + x^2 + 1 (R94). -/
def crc8Step (r : Byte) (b : Bool) : Byte :=
  if r.msb != b then (r <<< 1) ^^^ 0x4D#8 else r <<< 1

/-- The low `k` bits of `x`, most significant first, divided into remainder `r` (R94). -/
def crc8Bits {n : Nat} (x : BitVec n) : Nat → Byte → Byte
  | 0, r => r
  | k + 1, r => crc8Bits x k (crc8Step r (x.getLsbD k))

/-- R94: the header check over the first 24 header bits. -/
def headerCheck (x : BitVec 24) : Byte := crc8Bits x 24 0#8 ^^^ 0x3C#8

/-- R94: a header is good when its fourth byte equals the check over its first three bytes. -/
def goodHeader (w : Word) : Bool := w.setWidth 8 == headerCheck (w.extractLsb' 8 24)

/-- One bit of the CHECK's division: generator x^16 + x^12 + x^5 + 1 (R103). -/
def crc16Step (r : BitVec 16) (b : Bool) : BitVec 16 :=
  if r.msb != b then (r <<< 1) ^^^ 0x1021#16 else r <<< 1

/-- The low `k` bits of `x`, most significant first, divided into remainder `r` (R103). -/
def crc16Bits {n : Nat} (x : BitVec n) : Nat → BitVec 16 → BitVec 16
  | 0, r => r
  | k + 1, r => crc16Bits x k (crc16Step r (x.getLsbD k))

/-- R103: the CHECK over payload bytes 0..25, initial remainder FFFFh. -/
def payloadCheck (x : BitVec 208) : BitVec 16 := crc16Bits x 208 0xFFFF#16

/-- R103: the payload's bytes 26..27 equal the CHECK over its bytes 0..25. -/
def goodPayload (p : Payload) : Bool := p.setWidth 16 == payloadCheck (p.extractLsb' 16 208)

/-- R178: the kind a 3-bit code names. -/
def Kind.ofCode (c : BitVec 3) : Kind :=
  match c.toNat with
  | 0 => .idle
  | 1 => .data
  | 2 => .control
  | 3 => .mark
  | 4 => .unknown4
  | 5 => .unknown5
  | 6 => .unknown6
  | _ => .unknown7

/-- R178: the 3-bit code of a kind. -/
def Kind.code : Kind → BitVec 3
  | .idle => 0
  | .data => 1
  | .control => 2
  | .mark => 3
  | .unknown4 => 4
  | .unknown5 => 5
  | .unknown6 => 6
  | .unknown7 => 7

/-- R178: the fields of a header, its check byte set aside. -/
def Header.ofWord (w : Word) : Header where
  kind := Kind.ofCode (w.extractLsb' 29 3)
  label := w.extractLsb' 17 12
  hop := w.extractLsb' 13 4
  de := w.getLsbD 12
  tag := w.extractLsb' 8 4

/-- R178: header bits 31..8. -/
def Header.bits (h : Header) : BitVec 24 :=
  h.kind.code ++ h.label ++ h.hop ++ BitVec.ofBool h.de ++ h.tag

/-- R106, R178: the header as sent, with the check computed over its first three bytes. -/
def Header.toWord (h : Header) : Word := h.bits ++ headerCheck h.bits

/-- R106: a cell as the transmitter sends it. -/
def Header.rawCell (h : Header) (p : Payload) : RawCell := { header := h.toWord, payload := p }

/-- R106: the header of an IDLE cell. -/
def Header.idle : Header := { kind := .idle, label := 0, hop := 0, de := false, tag := 0 }

/-- R106, R178: the IDLE cell, header 00h 00h 00h 3Ch and 28 zero payload bytes. -/
def RawCell.idle : RawCell := Header.rawCell .idle 0

/-- R111: word `k` of a cell at the local port, `k` = 0..7. -/
def RawCell.word (c : RawCell) (k : Nat) : Word :=
  if k = 0 then c.header else c.payload.extractLsb' ((7 - k) * 32) 32

/-- R111: the payload made of the words 1..7, lowest-numbered word most significant. -/
def payloadOfWords (ws : List Word) : Payload :=
  ws.foldl (fun p w => (p <<< 32) ||| w.setWidth 224) 0

/-- R111: the cell made of eight local port words. -/
def RawCell.ofWords (ws : List Word) : RawCell :=
  { header := ws.headD 0, payload := payloadOfWords ws.tail }

/-- R179: the fields of a control payload. -/
def Control.ofPayload (p : Payload) : Control where
  dest := p.extractLsb' 216 8
  src := p.extractLsb' 208 8
  seq := p.extractLsb' 200 8
  op := p.extractLsb' 192 8
  flags := p.extractLsb' 184 8
  status := p.extractLsb' 176 8
  arg := p.extractLsb' 168 8
  count := p.extractLsb' 160 8
  index := p.extractLsb' 144 16
  data := p.extractLsb' 16 128

/-- R179: payload bytes 0..25. -/
def Control.body (c : Control) : BitVec 208 :=
  c.dest ++ c.src ++ c.seq ++ c.op ++ c.flags ++ c.status ++ c.arg ++ c.count ++ c.index ++ c.data

/-- R124, R179: the whole payload, its CHECK computed. -/
def Control.toPayload (c : Control) : Payload := c.body ++ payloadCheck c.body

/-- R179: DATA word `n`, 0..3. -/
def Control.word (c : Control) (n : Nat) : Word := c.data.extractLsb' ((3 - n) * 32) 32

/-- R179: DATA byte position `k`, 0..15. -/
def Control.byte (c : Control) (k : Nat) : Byte := c.data.extractLsb' ((15 - k) * 8) 8

/-- R179: FLAGS bit 7. -/
def Control.replyFlag (c : Control) : Bool := c.flags.getLsbD 7

/-- R179: FLAGS bit 6. -/
def Control.broadcastFlag (c : Control) : Bool := c.flags.getLsbD 6

/-- R179: FLAGS with the reply bit alone (R124). -/
def replyFlags : Byte := 0x80#8

/-- R179: FLAGS bit 5, retransmit. -/
def retransmitFlag : Byte := 0x20#8

/-- R179: FLAGS with the unsolicited bit alone (R166). -/
def unsolicitedFlags : Byte := 0x10#8

/-- R131, R166: the payload with the retransmit flag set and its CHECK computed again. -/
def retransmitted (p : Payload) : Payload :=
  let c := Control.ofPayload p
  ({ c with flags := c.flags ||| retransmitFlag } : Control).toPayload

/-- The commands of R181. -/
inductive Op where
  | discover | openSession | closeSession | ping | claim | release | set | get | status | restart
  | streamAdd | streamSet | streamRemove | streamRead | streamFind
  | meterSet | meterRead | meterHold | meterRun | meterReload
  | queueSet | queueRead
  | calWrite | calLength | calCopy | calRead | calCommit | calCancel
  | snapTake | snapRead | snapRelease
  | eventRead | eventClear | reportAck | reportRearm
  deriving DecidableEq, Repr

/-- R181: the command a code names, if it names one. -/
def Op.ofCode (c : Byte) : Option Op :=
  match c.toNat with
  | 0x01 => some .discover
  | 0x02 => some .openSession
  | 0x03 => some .closeSession
  | 0x04 => some .ping
  | 0x05 => some .claim
  | 0x06 => some .release
  | 0x07 => some .set
  | 0x08 => some .get
  | 0x09 => some .status
  | 0x0A => some .restart
  | 0x10 => some .streamAdd
  | 0x11 => some .streamSet
  | 0x12 => some .streamRemove
  | 0x13 => some .streamRead
  | 0x14 => some .streamFind
  | 0x20 => some .meterSet
  | 0x21 => some .meterRead
  | 0x22 => some .meterHold
  | 0x23 => some .meterRun
  | 0x24 => some .meterReload
  | 0x30 => some .queueSet
  | 0x31 => some .queueRead
  | 0x40 => some .calWrite
  | 0x41 => some .calLength
  | 0x42 => some .calCopy
  | 0x43 => some .calRead
  | 0x44 => some .calCommit
  | 0x45 => some .calCancel
  | 0x50 => some .snapTake
  | 0x51 => some .snapRead
  | 0x52 => some .snapRelease
  | 0x60 => some .eventRead
  | 0x61 => some .eventClear
  | 0x62 => some .reportAck
  | 0x63 => some .reportRearm
  | _ => none

/-- R181: the OP of a DISCOVER. -/
def discoverCode : Byte := 0x01#8

/-- R136, R181: the OP of an OPEN. -/
def openCode : Byte := 0x02#8

/-- R181: the OP of every report. -/
def reportCode : Byte := 0x70#8

/-- The command that a word spells by the table's bits. spec/opcode_table.json gives no row any bits, so there is none (log entry 16). -/
def decodeTableWord (_nbits _w : Nat) : Option Instr := none

end Sys2Proof
end

