-- ==== Sys2Proof/Machine/Table.lean ====
section
/-! DEFINITION. A table of a fixed number of records, as plain data that carries its own length. -/

namespace Sys2Proof.Machine

/-- `n` records of one kind, held in index order. -/
structure Table (α : Type) (n : Nat) where
  cells : List α
  size  : cells.length = n
  deriving DecidableEq, Repr

/-- The table whose records are all `a`. -/
def Table.fill {α : Type} (n : Nat) (a : α) : Table α n := ⟨List.replicate n a, List.length_replicate⟩

/-- Record `i`. -/
def Table.get {α : Type} {n : Nat} (t : Table α n) (i : Fin n) : α := t.cells[i.val]'(by rw [t.size]; exact i.isLt)

/-- The table with record `i` replaced. -/
def Table.set {α : Type} {n : Nat} (t : Table α n) (i : Fin n) (a : α) : Table α n :=
  ⟨t.cells.set i.val a, by rw [List.length_set, t.size]⟩

/-- The table with record `i` changed by `f`. -/
def Table.modify {α : Type} {n : Nat} (t : Table α n) (i : Fin n) (f : α → α) : Table α n := t.set i (f (t.get i))

/-- Every record changed by `f`. -/
def Table.map {α : Type} {n : Nat} (t : Table α n) (f : α → α) : Table α n :=
  ⟨t.cells.map f, by rw [List.length_map, t.size]⟩

/-- The list with `f` applied to each element and its index, counted from `k`. -/
def mapFrom {α : Type} (f : Nat → α → α) : Nat → List α → List α
  | _, [] => []
  | k, a :: as => f k a :: mapFrom f (k + 1) as

theorem length_mapFrom {α : Type} (f : Nat → α → α) (k : Nat) (as : List α) : (mapFrom f k as).length = as.length := by
  induction as generalizing k with
  | nil => rfl
  | cons a as ih => simp [mapFrom, ih]

/-- Every record changed by `f`, which is also given its index. -/
def Table.mapIdx {α : Type} {n : Nat} (t : Table α n) (f : Nat → α → α) : Table α n :=
  ⟨mapFrom f 0 t.cells, by rw [length_mapFrom, t.size]⟩

/-- The lowest index whose record satisfies `p`. -/
def Table.find? {α : Type} {n : Nat} (t : Table α n) (p : α → Bool) : Option (Fin n) :=
  match t.cells.findIdx? p with
  | none => none
  | some i => if h : i < n then some ⟨i, h⟩ else none

/-- The number of records that satisfy `p`. -/
def Table.count {α : Type} {n : Nat} (t : Table α n) (p : α → Bool) : Nat := t.cells.countP p

/-- The indices, from `k` up, of the records of a list that satisfy `p`. -/
def indicesFrom {α : Type} (p : α → Bool) (n : Nat) : Nat → List α → List (Fin n)
  | _, [] => []
  | k, a :: as =>
    if h : k < n then
      if p a then ⟨k, h⟩ :: indicesFrom p n (k + 1) as else indicesFrom p n (k + 1) as
    else []

/-- The indices, ascending, of the records that satisfy `p`. -/
def Table.indices {α : Type} {n : Nat} (t : Table α n) (p : α → Bool) : List (Fin n) := indicesFrom p n 0 t.cells

end Sys2Proof.Machine
end

