-- ==== Sys2Proof/Machine/State.lean ====
section
/-! DEFINITION. Everything the spec gives the LG-2416: the state of its twelve blocks, the events handed from one block to another
and not yet taken, and the queue of waiting commands. Plain data, with its power-on values. -/

namespace Sys2Proof.Machine

/-! ### Stream Table (R1, R2) -/

/-- R2: the life-cycle state of a stream entry. -/
inductive EntryState where
  | free | active | retiring
  deriving DecidableEq, Repr

/-- R1: what is done with a ring cell that matches an ACTIVE entry. -/
inductive Action where
  | forward | drop | copy | discard
  deriving DecidableEq, Repr

/-- R1: what is done with a cell its meter finds not conforming. -/
inductive OnExceed where
  | mark | discard
  deriving DecidableEq, Repr

/-- R1: one stream entry, less its counters, which the Counter Bank holds. -/
structure StreamEntry where
  label      : BitVec 12
  state      : EntryState
  action     : Action
  queue      : Fin 8
  meter      : Option (Fin 128)
  onExceed   : OnExceed
  addAllowed : Bool
  addHop     : BitVec 4
  purge      : Bool
  queued     : Nat
  deriving DecidableEq, Repr

/-- R1: the cleared values of a FREE entry. -/
def StreamEntry.cleared : StreamEntry where
  label := 0
  state := .free
  action := .discard
  queue := 0
  meter := none
  onExceed := .discard
  addAllowed := false
  addHop := 1
  purge := false
  queued := 0

/-! ### Meter Bank (R27, R28, R38) -/

/-- R27: the dividers a SLOTS source may name. -/
inductive Divider where
  | d1 | d8 | d64 | d512
  deriving DecidableEq, Repr

/-- R27: where a meter's source events come from. -/
inductive Source where
  | slots (divider : Divider)
  | mark (label : BitVec 12)
  | cascade (meter : Fin 128)
  deriving DecidableEq, Repr

/-- R27: one meter; `named` is the named count of R38. -/
structure Meter where
  credit    : Nat
  limit     : Nat
  increment : Nat
  period    : Nat
  counter   : Nat
  source    : Source
  partner   : Option (Fin 128)
  running   : Bool
  named     : Nat
  deriving DecidableEq, Repr

/-- R48: the power-on values of a meter. -/
def Meter.powerOn : Meter where
  credit := 1
  limit := 1
  increment := 1
  period := 1
  counter := 1
  source := .slots .d1
  partner := none
  running := true
  named := 0

/-- R27, R29: the meters and the shared slot divider. -/
structure MeterBank where
  meters      : Table Meter 128
  slotDivider : BitVec 9
  deriving DecidableEq, Repr

/-- R48. -/
def MeterBank.powerOn : MeterBank := { meters := Table.fill 128 .powerOn, slotDivider := 0 }

/-! ### Buffer Pool and Queues (R51, R55, R56, R62) -/

/-- R56: a cell waiting in an egress queue, with its owner (R3). -/
structure QueuedCell where
  header  : Header
  payload : Payload
  owner   : Option (Fin 256)
  deriving DecidableEq, Repr

/-- R55: one egress queue. Its depth is the length of `cells`, head first. -/
structure EgressQueue where
  limit       : Nat
  deThreshold : Nat
  fill        : Bool
  cells       : List QueuedCell
  deriving DecidableEq, Repr

/-- R55: the depth of an egress queue. -/
def EgressQueue.depth (q : EgressQueue) : Nat := q.cells.length

/-- R69: the power-on values of an egress queue. -/
def EgressQueue.powerOn : EgressQueue := { limit := 64, deThreshold := 64, fill := true, cells := [] }

/-- R51, R55, R62: the free list, described by its count, the egress queues, and the drop queue, head first. -/
structure Pool where
  free   : Nat
  queues : Table EgressQueue 8
  drop   : List RawCell
  deriving DecidableEq, Repr

/-- R69. -/
def Pool.powerOn : Pool := { free := Config.poolBuffers, queues := Table.fill 8 .powerOn, drop := [] }

/-! ### Control cells (R81, R125, R127, R146) -/

/-- A CONTROL cell held in a store of the Control Engine, whole. -/
structure ControlCell where
  header  : Header
  payload : Payload
  deriving DecidableEq, Repr

/-- R127: the producer that put a cell into the control egress queue. -/
inductive Producer where
  | transit | reply | report
  deriving DecidableEq, Repr

/-- R146: the kinds of restart. -/
inductive RestartKind where
  | traffic | all
  deriving DecidableEq, Repr

/-- R127, R146: a cell of the control egress queue, with its producer and, for a RESTART reply, its restart mark. -/
structure EgressCell where
  cell     : ControlCell
  producer : Producer
  mark     : Option RestartKind
  deriving DecidableEq, Repr

/-! ### Egress Calendar and Slot Selector (R72, R73) -/

/-- R73: how a slot is offered. -/
inductive SlotKind where
  | fixed | preferred | open_
  deriving DecidableEq, Repr

/-- R73: a calendar entry. -/
structure CalEntry where
  kind  : SlotKind
  queue : Fin 8
  deriving DecidableEq, Repr

/-- R72: a calendar bank. -/
structure Bank where
  entries : Table CalEntry 256
  length  : Nat
  deriving DecidableEq, Repr

/-- R92: the power-on values of a bank. -/
def Bank.powerOn : Bank := { entries := Table.fill 256 { kind := .open_, queue := 0 }, length := 1 }

/-- R72: the name of a bank. -/
inductive BankName where
  | a | b
  deriving DecidableEq, Repr

/-- R72: the cell in transmission, where there is one. A pool cell carries the index of the queue it was taken from. -/
inductive TxCell where
  | pool (cell : QueuedCell) (queue : Fin 8)
  | control (cell : EgressCell)
  | idle
  deriving DecidableEq, Repr

/-- R72. -/
structure Calendar where
  bankA         : Bank
  bankB         : Bank
  active        : BankName
  position      : Nat
  commitPending : Bool
  inTx          : Option TxCell
  deriving DecidableEq, Repr

/-- R92. -/
def Calendar.powerOn : Calendar where
  bankA := .powerOn
  bankB := .powerOn
  active := .a
  position := 0
  commitPending := false
  inTx := none

/-! ### Ring Receiver and Ring Transmitter (R95, R105) -/

/-- R95: the delineation state. -/
inductive RxState where
  | hunt | presync | sync
  deriving DecidableEq, Repr

/-- R95: the Ring Receiver. `position` is the number of bytes received so far, in which the boundary is told; `window` holds the
bytes most recently received, at most four, oldest first (R96); `arriving` is the header of the cell in reception (R99). DESIGN CHOICE: `position` and `window`, log entry 10. -/
structure Receiver where
  state    : RxState
  goodRun  : Nat
  badRun   : Nat
  boundary : Option Nat
  arriving : Option Word
  position : Nat
  window   : List Byte
  deriving DecidableEq, Repr

/-- R109, power-on column. -/
def Receiver.powerOn : Receiver where
  state := .hunt
  goodRun := 0
  badRun := 0
  boundary := none
  arriving := none
  position := 0
  window := []

/-- R105: the Ring Transmitter. `outgoing` is the cell being sent in the present cell time. -/
structure Transmitter where
  bytePosition : BitVec 5
  tickDivider  : BitVec 10
  outgoing     : Option RawCell
  deriving DecidableEq, Repr

/-- R109, power-on column. R109 gives the byte position as 0 at the first slot event, and no value before it, while IDLE cells are sent; here it
is 0 from the power-on on (DESIGN CHOICE, unsafe: log entry 20). -/
def Transmitter.powerOn : Transmitter := { bytePosition := 0, tickDivider := 0, outgoing := none }

/-! ### Local Port (R112, R118, R183) -/

/-- R112: the cell the equipment is writing. -/
inductive OpenCell where
  | none
  | placed (words : List Word)
  | broken (received : Nat)
  deriving DecidableEq, Repr

/-- R112, R118: both halves of the Local Port. `addSpacePin` and `dropAvailPin` are the levels seen at the two pins since the last
rising edge of LCLK (R183); DROP_DATA and DROP_FIRST show `presented` and `dropFirst`. -/
structure LocalPort where
  completed        : List RawCell
  openCell         : OpenCell
  deliveryPosition : Nat
  presented        : Word
  dropFirst        : Bool
  addSpacePin      : Bool
  dropAvailPin     : Bool
  deriving DecidableEq, Repr

/-- R121, R122: the port from the release of the reset pin. -/
def LocalPort.powerOn : LocalPort where
  completed := []
  openCell := .none
  deliveryPosition := 0
  presented := 0
  dropFirst := false
  addSpacePin := true
  dropAvailPin := false

/-! ### Control Engine, Session Table, Settings (R125 to R129, R139, R142) -/

/-- R145: the kind of the last reset to take effect. -/
inductive LastReset where
  | powerOn | all | traffic
  deriving DecidableEq, Repr

/-- R125, R127, R146. -/
structure ControlEngine where
  intake         : List ControlCell
  egress         : List EgressCell
  restartPending : Bool
  lastReset      : LastReset
  deriving DecidableEq, Repr

/-- R148, power-on column. -/
def ControlEngine.powerOn : ControlEngine :=
  { intake := [], egress := [], restartPending := false, lastReset := .powerOn }

/-- R129: an OPEN session. Next SEQ is last SEQ + 1, modulo 256. -/
structure Session where
  manager   : BitVec 6
  lastSeq   : Byte
  cached    : ControlCell
  idleTimer : Nat
  deriving DecidableEq, Repr

/-- R129: the SEQ the next new command must carry. -/
def Session.nextSeq (x : Session) : Byte := x.lastSeq + 1

/-- R129, R139: the four entries, `none` where FREE, and the edit claim. -/
structure SessionTable where
  entries : Table (Option Session) 4
  claim   : Option (Fin 4)
  deriving DecidableEq, Repr

/-- R148, power-on column. -/
def SessionTable.powerOn : SessionTable := { entries := Table.fill 4 none, claim := none }

/-- R142: *unknown policy*. -/
inductive UnknownPolicy where
  | forward | discard
  deriving DecidableEq, Repr

/-- R142: the node-wide settings; a *report target* of NONE is `none`. -/
structure Settings where
  unknownPolicy  : UnknownPolicy
  unknownQueue   : Fin 8
  dropLimit      : Nat
  reportTarget   : Option (BitVec 6)
  reportMask     : BitVec 14
  reportTimeout  : Nat
  reportRetries  : Nat
  sessionTimeout : Nat
  controlHop     : BitVec 4
  deriving DecidableEq, Repr

/-- R142, power-on values. -/
def Settings.powerOn : Settings where
  unknownPolicy := .forward
  unknownQueue := 7
  dropLimit := 64
  reportTarget := none
  reportMask := 0
  reportTimeout := 50
  reportRetries := 3
  sessionTimeout := 2000
  controlHop := 15

/-! ### Counter Bank (R149, R150, R153) -/

/-- R1: the four counters of a stream entry. -/
structure StreamCounters where
  arrived         : Word
  marked          : Word
  discardedPolice : Word
  discardedOther  : Word
  deriving DecidableEq, Repr

/-- All four counters at 0. -/
def StreamCounters.zero : StreamCounters := { arrived := 0, marked := 0, discardedPolice := 0, discardedOther := 0 }

/-- The names of a stream entry's counters. -/
inductive StreamCounter where
  | arrived | marked | discardedPolice | discardedOther
  deriving DecidableEq, Repr

/-- R61: the four counters of an egress queue. -/
structure QueueCounters where
  enqueued      : Word
  sent          : Word
  discardedFull : Word
  discardedDe   : Word
  deriving DecidableEq, Repr

/-- All four counters at 0. -/
def QueueCounters.zero : QueueCounters := { enqueued := 0, sent := 0, discardedFull := 0, discardedDe := 0 }

/-- The names of an egress queue's counters. -/
inductive QueueCounter where
  | enqueued | sent | discardedFull | discardedDe
  deriving DecidableEq, Repr

/-- R150: the sixteen device counters. -/
inductive DeviceCounter where
  | headerErrors | syncLosses | hopExpired | unknownLabel | unknownKind | controlIntakeLost | controlEgressLost
  | controlCheckErrors | controlMisrouted | dropFullDiscards | addRefused | retiringDiscards | poolEmptyDiscards
  | cellsSent | idleSent | commandsExecuted
  deriving DecidableEq, Repr

/-- R153: the group a snapshot was copied from. -/
inductive SnapSource where
  | streams | queues | device
  deriving DecidableEq, Repr

/-- R153: one record of the snapshot buffer; `entryState` is present for STREAMS records alone. -/
structure SnapRecord where
  object     : Nat
  entryState : Option EntryState
  word0      : Word
  word1      : Word
  word2      : Word
  word3      : Word
  deriving DecidableEq, Repr

/-- R153: the snapshot buffer. Its record count is the length of `records`. -/
structure Snapshot where
  records : List SnapRecord
  source  : Option SnapSource
  owner   : Option (Fin 4)
  deriving DecidableEq, Repr

/-- R161: the empty buffer. -/
def Snapshot.empty : Snapshot := { records := [], source := none, owner := none }

/-- R149, R153. -/
structure CounterBank where
  streams  : Table StreamCounters 256
  queues   : Table QueueCounters 8
  device   : Table Word 16
  snapshot : Snapshot
  deriving DecidableEq, Repr

/-- R160, R161. -/
def CounterBank.powerOn : CounterBank where
  streams := Table.fill 256 .zero
  queues := Table.fill 8 .zero
  device := Table.fill 16 0
  snapshot := .empty

/-! ### Event Unit (R162, R163) -/

/-- R164: the report state. -/
inductive ReportState where
  | idle | outstanding | down
  deriving DecidableEq, Repr

/-- R162, R163: the Event Unit. `timer` is `none` while stopped. `present` holds the present report as it was built, from which a
resend is made (R166, R169). DESIGN CHOICE, safe: `present`, log entry 10. -/
structure EventUnit where
  flags       : BitVec 14
  reportState : ReportState
  number      : Byte
  carried     : BitVec 14
  renewed     : BitVec 14
  retriesLeft : Nat
  timer       : Option Nat
  store       : Option ControlCell
  present     : Option ControlCell
  deriving DecidableEq, Repr

/-- R176: RESTARTED is flag 13. -/
def EventUnit.powerOn : EventUnit where
  flags := 0x2000#14
  reportState := .idle
  number := 0
  carried := 0
  renewed := 0
  retriesLeft := 3
  timer := none
  store := none
  present := none

/-! ### Events handed over and not yet taken (R28, R31, R108, R162, R168) -/

/-- R28: the origin a source event carries. -/
inductive Origin where
  | slot (divider : BitVec 9)
  | mark (label : BitVec 12)
  | cascade (meter : Fin 128)
  deriving DecidableEq, Repr

/-- R28: a source event on its way, with the meters it has still to reach. -/
structure SourceEvent where
  origin  : Origin
  targets : List (Fin 128)
  deriving DecidableEq, Repr

/-- The events one block has handed to another, oldest first: source events on their way to meters (R28), flag occurrences handed to
the Event Unit (R162), ticks not yet taken by the Session Table and by the Event Unit (R108), and the SEQ of completed report cells
(R168). DESIGN CHOICE, log entry 1. -/
structure Handover where
  sources      : List SourceEvent
  flags        : List EventFlag
  sessionTicks : Nat
  eventTicks   : Nat
  reportsSent  : List Byte
  deriving DecidableEq, Repr

/-- Nothing handed over. -/
def Handover.empty : Handover :=
  { sources := [], flags := [], sessionTicks := 0, eventTicks := 0, reportsSent := [] }

/-! ### The machine -/

/-- The whole part, with the queue of waiting commands, first in first out. `resetHeld` says whether the reset pin is held. -/
structure State where
  resetHeld   : Bool
  nodeAddress : BitVec 6
  rx          : Receiver
  streams     : Table StreamEntry 256
  bank        : MeterBank
  pool        : Pool
  cal         : Calendar
  tx          : Transmitter
  port        : LocalPort
  engine      : ControlEngine
  sess        : SessionTable
  settings    : Settings
  counters    : CounterBank
  events      : EventUnit
  handover    : Handover
  pending     : List Instr
  deriving DecidableEq, Repr

/-- The part right after power-on: the reset pin just released, with every strap at its internal pull-down (node address 0), and no
command waiting. DESIGN CHOICE, unsafe: the straps, log entry 7. -/
def State.reset : State where
  resetHeld := false
  nodeAddress := 0
  rx := .powerOn
  streams := Table.fill 256 .cleared
  bank := .powerOn
  pool := .powerOn
  cal := .powerOn
  tx := .powerOn
  port := .powerOn
  engine := .powerOn
  sess := .powerOn
  settings := .powerOn
  counters := .powerOn
  events := .powerOn
  handover := .empty
  pending := []

/-- Why the part stops. The spec names no event that stops the part, so there is no fault; the type is empty, which is safe. -/
inductive Fault where
  deriving DecidableEq, Repr

/-- Why a command has no meaning. -/
inductive Refusal where
  /-- Raised by an arm of `exec` that has no meaning yet; no arm raises it. Safe: the model stops. -/
  | notModelled (mnemonic : String)
  deriving DecidableEq, Repr

end Sys2Proof.Machine
end

