-- ==== Sys2Proof/Machine/Flags.lean ====
section
/-! DEFINITION. The event flags and flag sets (R162, R180), and the numbers of the device counters (R150). -/

namespace Sys2Proof.Machine

/-- R162: the number of a flag, its place in every flag set. -/
def flagNumber : EventFlag → Nat
  | .syncLost => 0
  | .syncGained => 1
  | .headerError => 2
  | .hopExpired => 3
  | .unknownLabel => 4
  | .poolEmpty => 5
  | .queueFull => 6
  | .dropFull => 7
  | .addRefused => 8
  | .controlLost => 9
  | .calendarSwapped => 10
  | .streamRetired => 11
  | .sessionEnded => 12
  | .restarted => 13

/-- R180: the flag set that holds one flag alone. -/
def flagBit (f : EventFlag) : BitVec 14 := 1#14 <<< flagNumber f

/-- Whether a flag set holds a flag. -/
def hasFlag (x : BitVec 14) (f : EventFlag) : Bool := x.getLsbD (flagNumber f)

/-- R162, R170: taking an occurrence of `f` at the Event Unit. Its flag is set; while a report is OUTSTANDING or DOWN and carries the
flag, its renewed mark becomes yes. -/
def EventUnit.occurrence (u : EventUnit) (f : EventFlag) : EventUnit :=
  { u with
    flags := u.flags ||| flagBit f
    renewed := if u.reportState ≠ .idle ∧ hasFlag u.carried f then u.renewed ||| flagBit f else u.renewed }

/-- R165: the flags a report built now would carry: set, and enabled by the mask. -/
def reportable (u : EventUnit) (mask : BitVec 14) : BitVec 14 := u.flags &&& mask

/-- R171: the flags an acknowledgement clears: carried, and not renewed. -/
def EventUnit.acknowledged (u : EventUnit) : BitVec 14 := u.carried &&& ~~~u.renewed

/-- R150: the number of a device counter. -/
def deviceNumber : DeviceCounter → Fin 16
  | .headerErrors => 0
  | .syncLosses => 1
  | .hopExpired => 2
  | .unknownLabel => 3
  | .unknownKind => 4
  | .controlIntakeLost => 5
  | .controlEgressLost => 6
  | .controlCheckErrors => 7
  | .controlMisrouted => 8
  | .dropFullDiscards => 9
  | .addRefused => 10
  | .retiringDiscards => 11
  | .poolEmptyDiscards => 12
  | .cellsSent => 13
  | .idleSent => 14
  | .commandsExecuted => 15

end Sys2Proof.Machine
end

