-- ==== Sys2Proof/Machine/Ops.lean ====
section
/-! DEFINITION. The operations the meanings share: raising counters, handing events over, the records of the tables, the signals of
the local port, teardown of a session, and the resets. -/

namespace Sys2Proof.Machine

/-! ### Counters (R149) -/

/-- One raise of a stream counter; a counter is 32 bits wide and wraps (R149). -/
def StreamCounters.raise (c : StreamCounters) : StreamCounter → StreamCounters
  | .arrived => { c with arrived := c.arrived + 1 }
  | .marked => { c with marked := c.marked + 1 }
  | .discardedPolice => { c with discardedPolice := c.discardedPolice + 1 }
  | .discardedOther => { c with discardedOther := c.discardedOther + 1 }

/-- One raise of a queue counter (R149). -/
def QueueCounters.raise (c : QueueCounters) : QueueCounter → QueueCounters
  | .enqueued => { c with enqueued := c.enqueued + 1 }
  | .sent => { c with sent := c.sent + 1 }
  | .discardedFull => { c with discardedFull := c.discardedFull + 1 }
  | .discardedDe => { c with discardedDe := c.discardedDe + 1 }

/-- R149, R150: a device counter is raised by 1. -/
def State.countDevice (s : State) (c : DeviceCounter) : State :=
  { s with counters := { s.counters with device := s.counters.device.modify (deviceNumber c) (· + 1) } }

/-- R149: a counter of stream entry `i` is raised by 1. -/
def State.countStream (s : State) (i : Fin 256) (c : StreamCounter) : State :=
  { s with counters := { s.counters with streams := s.counters.streams.modify i (·.raise c) } }

/-- R61, R149: a counter of Q`q` is raised by 1. -/
def State.countQueue (s : State) (q : Fin 8) (c : QueueCounter) : State :=
  { s with counters := { s.counters with queues := s.counters.queues.modify q (·.raise c) } }

/-- R13, R58: DISCARDED_OTHER of the owner is raised for a DATA cell that has one. -/
def State.countOther (s : State) (kind : Kind) (owner : Option (Fin 256)) : State :=
  match owner with
  | some i => if kind = .data then s.countStream i .discardedOther else s
  | none => s

/-! ### Events handed over (R162) -/

/-- R162: an occurrence of `f` is handed to the Event Unit. Several occurrences of one flag in one event are one setting, so a flag
already handed over in this event is not handed over again; `oneEvent` sets the event's own list apart (DEDUCED, safe: log entry 12). -/
def State.hand (s : State) (f : EventFlag) : State :=
  if f ∈ s.handover.flags then s else { s with handover := { s.handover with flags := s.handover.flags ++ [f] } }

/-- R162: `f` run as one event: what it hands to the Event Unit stands behind what earlier events handed over. -/
def oneEvent (f : State → State) (s : State) : State :=
  let t := f { s with handover := { s.handover with flags := [] } }
  { t with handover := { t.handover with flags := s.handover.flags ++ t.handover.flags } }

/-- While the reset pin is held the part takes no event (R105, R109, R121, R122; log entry 7). -/
def live (f : State → State) (s : State) : State := if s.resetHeld then s else oneEvent f s

/-! ### The Stream Table (R3, R4, R16, R18) -/

/-- Entry `i` takes the value `e`. -/
def State.setStream (s : State) (i : Fin 256) (e : StreamEntry) : State := { s with streams := s.streams.set i e }

/-- R4: the entry, other than FREE, that holds `label`. -/
def State.lookup (s : State) (label : BitVec 12) : Option (Fin 256) :=
  s.streams.find? fun e => e.state ≠ .free && e.label = label

/-- R16, R18: a cell of entry `i` leaves its queue; a RETIRING entry whose queued count reaches 0 becomes FREE, and STREAM_RETIRED
is handed over. -/
def State.departs (s : State) (i : Fin 256) : State :=
  let e := s.streams.get i
  if e.state = .retiring ∧ e.queued - 1 = 0 then (s.setStream i .cleared).hand .streamRetired
  else s.setStream i { e with queued := e.queued - 1 }

/-- R16: the owner of a cell, if it has one, loses the cell from its queued count. -/
def State.ownerDeparts (s : State) (owner : Option (Fin 256)) : State :=
  match owner with
  | some i => s.departs i
  | none => s

/-- R59: the owner of an admitted cell, if it has one, counts it. -/
def State.ownerGains (s : State) (owner : Option (Fin 256)) : State :=
  match owner with
  | some i => s.setStream i { s.streams.get i with queued := (s.streams.get i).queued + 1 }
  | none => s

/-! ### The Meter Bank -/

/-- Meter `m` takes the value `x`. -/
def State.setMeter (s : State) (m : Fin 128) (x : Meter) : State :=
  { s with bank := { s.bank with meters := s.bank.meters.set m x } }

/-- Meter `m`. -/
def State.meter (s : State) (m : Fin 128) : Meter := s.bank.meters.get m

/-- R28: a source event of origin `o` on its way to the meters that listen to it now. -/
def State.handSource (s : State) (o : Origin) (listens : Meter → Bool) : State :=
  match s.bank.meters.indices listens with
  | [] => s
  | t :: ts =>
    { s with handover := { s.handover with sources := s.handover.sources ++ [{ origin := o, targets := t :: ts }] } }

/-! ### The Buffer Pool and Queues (R51 to R53) -/

/-- Egress queue `q`. -/
def State.queue (s : State) (q : Fin 8) : EgressQueue := s.pool.queues.get q

/-- Egress queue `q` takes the value `x`. -/
def State.setQueue (s : State) (q : Fin 8) (x : EgressQueue) : State :=
  { s with pool := { s.pool with queues := s.pool.queues.set q x } }

/-- R52: an acceptance takes one buffer. -/
def State.takeBuffer (s : State) : State := { s with pool := { s.pool with free := s.pool.free - 1 } }

/-- R53: a buffer returns to the free list. -/
def State.returnBuffer (s : State) : State := { s with pool := { s.pool with free := s.pool.free + 1 } }

/-! ### The calendar (R72, R76) -/

/-- The other bank. -/
def BankName.other : BankName → BankName
  | .a => .b
  | .b => .a

/-- A bank by name. -/
def Calendar.bank (c : Calendar) : BankName → Bank
  | .a => c.bankA
  | .b => c.bankB

/-- R72: the bank the Slot Selector reads. -/
def Calendar.activeBank (c : Calendar) : Bank := c.bank c.active

/-- R72: the bank the CAL commands write. -/
def Calendar.shadowBank (c : Calendar) : Bank := c.bank c.active.other

/-- The shadow bank takes the value `x`. -/
def Calendar.setShadow (c : Calendar) (x : Bank) : Calendar :=
  match c.active with
  | .a => { c with bankB := x }
  | .b => { c with bankA := x }

/-- R76, R93: the banks exchange roles, and the commit is no longer pending. -/
def Calendar.swap (c : Calendar) : Calendar := { c with active := c.active.other, commitPending := false }

/-- Record `k` of a bank; an index past the last is read modulo 256. -/
def Bank.entry (b : Bank) (k : Nat) : CalEntry := b.entries.get (Fin.ofNat 256 k)

/-! ### Signals of the local port (R112, R118, R183) -/

/-- R112: whether the open cell is placed. -/
def OpenCell.isPlaced : OpenCell → Bool
  | .placed _ => true
  | .broken _ => false
  | .none => false

/-- R112: the staging slots in use. -/
def LocalPort.slotsInUse (p : LocalPort) : Nat := p.completed.length + if p.openCell.isPlaced then 1 else 0

/-- R112: the ADD_SPACE signal, from the state of the add side. -/
def LocalPort.addSpace (p : LocalPort) : Bool := decide (p.slotsInUse < Config.stagingSlots) || p.openCell.isPlaced

/-- R118: the DROP_AVAIL signal, from the state of the drop queue. -/
def State.dropAvail (s : State) : Bool := !s.pool.drop.isEmpty

/-- R183: after a rising edge of LCLK the two pins show the state as it stands; while the reset pin is held both are low. -/
def State.portEdge (s : State) : State :=
  { s with port := { s.port with
    addSpacePin := !s.resetHeld && s.port.addSpace
    dropAvailPin := !s.resetHeld && s.dropAvail } }

/-- R105, R109: the cell on the ring output: the outgoing cell, and an IDLE cell where there is none (while the reset pin is held, and
until the first slot event). -/
def State.ringOutput (s : State) : RawCell := s.tx.outgoing.getD .idle

/-- R113 to R115, R14: one add refusal: the counter and the flag ADD_REFUSED. -/
def State.refuseAdd (s : State) : State := (s.countDevice .addRefused).hand .addRefused

/-! ### The control egress queue (R127) -/

/-- R127: whether the control egress queue has a free place. -/
def State.egressRoom (s : State) : Bool := decide (s.engine.egress.length < Config.controlEgressPlaces)

/-- R127: a CONTROL cell joins the tail of the control egress queue. -/
def State.joinEgress (s : State) (c : EgressCell) : State :=
  { s with engine := { s.engine with egress := s.engine.egress ++ [c] } }

/-! ### Sessions (R129, R132, R134) -/

/-- Session entry `i` takes the value `x`. -/
def State.setSession (s : State) (i : Fin 4) (x : Option Session) : State :=
  { s with sess := { s.sess with entries := s.sess.entries.set i x } }

/-- R128: the open session, if there is one, whose manager node is `node`. -/
def State.sessionOf (s : State) (node : BitVec 6) : Option (Fin 4) :=
  s.sess.entries.find? fun x =>
    match x with
    | some y => y.manager = node
    | none => false

/-- R129: the number of OPEN session entries. -/
def State.openSessions (s : State) : Nat := s.sess.entries.count Option.isSome

/-- R135: the number of FREE session entries. -/
def State.freeSessions (s : State) : Nat := s.sess.entries.count Option.isNone

/-- R132: the idle timer of session `i` is restarted to 0. -/
def State.restartIdle (s : State) (i : Fin 4) : State :=
  match s.sess.entries.get i with
  | some x => s.setSession i (some { x with idleTimer := 0 })
  | none => s

/-- R158, R159: the snapshot buffer is emptied. -/
def State.emptySnapshot (s : State) : State := { s with counters := { s.counters with snapshot := .empty } }

/-- R134: the teardown of session `i`, its flag apart. The claim and the snapshot it held are freed, and its cached reply goes with its
entry. -/
def State.teardown (s : State) (i : Fin 4) : State :=
  let s := if s.sess.claim = some i then { s with sess := { s.sess with claim := none } } else s
  let s := if s.counters.snapshot.owner = some i then s.emptySnapshot else s
  s.setSession i none

/-- R180: a node address that may be NONE, as an 8-bit field. -/
def nodeField : Option (BitVec 6) → Byte
  | some n => n.setWidth 8
  | none => 0xFF#8

/-- The manager node of session entry `i`, where that entry is OPEN. -/
def State.managerOf (s : State) (i : Fin 4) : Option (BitVec 6) := (s.sess.entries.get i).map (·.manager)

/-- R139, R145: the node address of the claim holder. -/
def State.claimHolder (s : State) : Option (BitVec 6) :=
  match s.sess.claim with
  | some i => s.managerOf i
  | none => none

/-! ### The Event Unit (R171, R175) -/

/-- R171, R172, R175: the present report ends: the timer is stopped, the report store emptied, the carried set and the renewed marks
become empty, retries left becomes the setting, and the state becomes IDLE. -/
def EventUnit.toIdle (u : EventUnit) (retries : Nat) : EventUnit :=
  { u with
    reportState := .idle
    carried := 0
    renewed := 0
    retriesLeft := retries
    timer := none
    store := none
    present := none }

/-! ### The resets (R25, R26, R49, R50, R69 to R71, R92, R93, R109, R121, R122, R148, R160, R161, R176, R177) -/

/-- R71: the flush of the queues. -/
def Pool.flush (p : Pool) : Pool :=
  { free := Config.poolBuffers, queues := p.queues.map fun q => { q with cells := [] }, drop := [] }

/-- R121, R122: the Local Port after a restart. The two level pins follow at the next rising edge of LCLK (R183), while DROP_DATA and
DROP_FIRST, the presented word itself, change at the restart at once (R119, R122), though R183 tells changes at a pin by edges of LCLK (DEDUCED,
unsafe: log entry 14). -/
def LocalPort.restarted (p : LocalPort) : LocalPort :=
  { p with
    completed := []
    openCell := .none
    deliveryPosition := 0
    presented := 0
    dropFirst := false }

/-- R26: an entry after RESTART TRAFFIC. -/
def StreamEntry.restarted (e : StreamEntry) : StreamEntry :=
  if e.state = .retiring then .cleared else { e with queued := 0 }

/-- R50: a meter after RESTART TRAFFIC. -/
def Meter.reloaded (m : Meter) : Meter := { m with credit := m.limit, counter := m.period }

/-- Chapter 2, 2.9: a restart discards the cascade source events not yet taken, and no others (R34; DEDUCED, unsafe: log entry 11). -/
def keptByRestart (e : SourceEvent) : Bool :=
  match e.origin with
  | .cascade _ => false
  | .slot _ => true
  | .mark _ => true

/-- The events handed over, less the cascade source events. -/
def Handover.dropCascades (h : Handover) : Handover := { h with sources := h.sources.filter keptByRestart }

/-- R93: the calendar after RESTART TRAFFIC. -/
def Calendar.restarted (c : Calendar) : Calendar :=
  { (if c.commitPending then c.swap else c) with position := 0 }

/-- R147 and each chapter's last section: RESTART TRAFFIC takes effect. The byte position is 0 from the restart itself on; R109 tells its value
at the next slot event (DESIGN CHOICE, unsafe: log entry 20). -/
def State.restartTraffic (s : State) : State :=
  let retired := s.streams.cells.any fun e => e.state = .retiring
  let swapped := s.cal.commitPending
  let t : State :=
    { s with
      streams := s.streams.map StreamEntry.restarted
      bank := { s.bank with meters := s.bank.meters.map Meter.reloaded }
      pool := s.pool.flush
      cal := s.cal.restarted
      tx := { s.tx with bytePosition := 0, outgoing := none }
      port := s.port.restarted
      engine := { s.engine with restartPending := false, lastReset := .traffic }
      handover := s.handover.dropCascades }
  let t := if swapped then t.hand .calendarSwapped else t
  let t := if retired then t.hand .streamRetired else t
  t.hand .restarted

/-- R147 and each chapter's last section: RESTART ALL takes effect, with these levels at the strap pins (R101). Every block takes its
power-on values. Events handed over and not yet taken stay on their way (R34, R176; log entry 11), but for cascade source events (2.9). The byte position
is 0 from the restart itself on (DESIGN CHOICE, unsafe: log entry 20). -/
def State.restartAll (s : State) (straps : BitVec 6) : State :=
  { State.reset with
    nodeAddress := straps
    port := s.port.restarted
    engine := { ControlEngine.powerOn with lastReset := .all }
    handover := s.handover.dropCascades
    pending := s.pending }

/-- R101, R105, R109, R121, R122, R176: the power-on state, held while the reset pin is held. The node address last sampled is held until
the release samples the straps (R101). A flag occurrence handed over before the reset
can still reach the Event Unit after it (R176; DEDUCED, unsafe: log entry 11). -/
def State.powerOn (s : State) : State :=
  { State.reset with
    resetHeld := true
    nodeAddress := s.nodeAddress
    port := { LocalPort.powerOn with addSpacePin := false }
    handover := { Handover.empty with flags := s.handover.flags }
    pending := s.pending }

end Sys2Proof.Machine
end

