-- ==== Sys2Proof/Machine/Operands.lean ====
section
/-! DEFINITION. The operand forms of the commands: the codes and record layouts of chapter 10 (R180, section 10.4), read from a command and
written into a reply. A decoder answers `none` for an ill-coded or out-of-range field. -/

namespace Sys2Proof.Machine

/-- A 32-bit word's field of `len` bits from bit `lo` up. -/
def field (w : Word) (lo len : Nat) : BitVec len := w.extractLsb' lo len

/-- The four DATA words of a reply, as one quantity (R179). -/
def dataWords (w0 w1 w2 w3 : Word) : BitVec 128 := w0 ++ w1 ++ w2 ++ w3

/-- R22, R40, R66: a field that ARG bit `k` selects takes the value the command carries; another keeps its own. The result is `none`
where a selected field is out of range or ill-coded. -/
def selected {α : Type} (arg : Byte) (k : Nat) (old : α) (new : Option α) : Option α :=
  if arg.getLsbD k then new else some old

/-- The values of a list of fields, `none` where one of them is out of range or ill-coded. -/
def allSome {α : Type} : List (Option α) → Option (List α)
  | [] => some []
  | none :: _ => none
  | some x :: xs => (allSome xs).map (x :: ·)

/-! ### Codes (R180) -/

/-- R180: yes or no. -/
def decodeYesNo (x : Byte) : Option Bool :=
  match x.toNat with
  | 0 => some false
  | 1 => some true
  | _ => none

/-- R180: the code of yes or no. -/
def yesNo (b : Bool) : Byte := if b then 1#8 else 0#8

/-- R180: a meter index that may be absent. -/
def decodeMeter (x : Byte) : Option (Option (Fin 128)) :=
  if h : x.toNat < 128 then some (some ⟨x.toNat, h⟩) else if x = 0xFF#8 then some none else none

/-- R180: the code of a meter index that may be absent. -/
def meterField : Option (Fin 128) → Byte
  | some m => BitVec.ofNat 8 m.val
  | none => 0xFF#8

/-- R180: a node address that may be NONE, held in a DATA word. -/
def decodeNode (w : Word) : Option (Option (BitVec 6)) :=
  if w.toNat < 64 then some (some (w.setWidth 6)) else if w = 0xFF#32 then some none else none

/-- R1, section 10.4: a queue index field. -/
def decodeQueue (x : Nat) : Option (Fin 8) := if h : x < 8 then some ⟨x, h⟩ else none

/-- Section 10.4: the action codes. -/
def decodeAction (x : Byte) : Option Action :=
  match x.toNat with
  | 0 => some .forward
  | 1 => some .drop
  | 2 => some .copy
  | 3 => some .discard
  | _ => none

/-- Section 10.4. -/
def actionField : Action → Byte
  | .forward => 0
  | .drop => 1
  | .copy => 2
  | .discard => 3

/-- Section 10.4: the on-exceed codes. -/
def decodeOnExceed (x : Byte) : Option OnExceed :=
  match x.toNat with
  | 0 => some .mark
  | 1 => some .discard
  | _ => none

/-- Section 10.4. -/
def onExceedField : OnExceed → Byte
  | .mark => 0
  | .discard => 1

/-- R1: an add-hop, 1..15. -/
def decodeHop (x : Nat) : Option (BitVec 4) := if 1 ≤ x ∧ x < 16 then some (BitVec.ofNat 4 x) else none

/-- R180: the stream entry state codes. -/
def entryStateCode : EntryState → Byte
  | .free => 0
  | .active => 1
  | .retiring => 2

/-- R180: the receiver state codes. -/
def rxStateCode : RxState → Byte
  | .hunt => 0
  | .presync => 1
  | .sync => 2

/-- R180: the report state codes. -/
def reportStateCode : ReportState → Byte
  | .idle => 0
  | .outstanding => 1
  | .down => 2

/-- R180: the last reset kind codes. -/
def lastResetCode : LastReset → Byte
  | .powerOn => 0
  | .all => 1
  | .traffic => 2

/-- Section 10.5: the code of a bank. -/
def bankCode : BankName → Byte
  | .a => 0
  | .b => 1

/-! ### Status codes and details (R180, 7.8) -/

/-- Section 7.8: the status codes. -/
inductive Status where
  | ok | accepted | pending
  | badOp | badParam | noSession | sessionsFull | sequence | notHolder | exists_ | notFound | full | busy | stale
  | notTarget | noSnapshot
  deriving DecidableEq, Repr

/-- R180: the value of a status code. -/
def Status.code : Status → Byte
  | .ok => 0x00
  | .accepted => 0x01
  | .pending => 0x02
  | .badOp => 0x10
  | .badParam => 0x11
  | .noSession => 0x12
  | .sessionsFull => 0x13
  | .sequence => 0x14
  | .notHolder => 0x15
  | .exists_ => 0x16
  | .notFound => 0x17
  | .full => 0x18
  | .busy => 0x19
  | .stale => 0x1A
  | .notTarget => 0x1B
  | .noSnapshot => 0x1C

/-- R180: the details a reply's ARG may carry. -/
def detailFreed : Byte := 1
def detailRetiring : Byte := 2
def detailRange : Byte := 1
def detailCascadeOrder : Byte := 2
def detailPartner : Byte := 3
def detailCancelled : Byte := 1
def detailNonePending : Byte := 2
def detailReleased : Byte := 1
def detailNoneHeld : Byte := 2
def detailCleared : Byte := 1
def detailNoneOutstanding : Byte := 2
def detailRearmed : Byte := 1
def detailNoneDown : Byte := 2

/-- R180: the kind of a RESTART. -/
def decodeRestart (x : Byte) : Option RestartKind :=
  match x.toNat with
  | 1 => some .traffic
  | 2 => some .all
  | _ => none

/-! ### Stream entry record -/

/-- Section 10.4: the seven configured fields as STREAM-ADD and STREAM-SET carry them, each `none` where it is ill-coded. -/
structure StreamFields where
  label      : BitVec 12
  action     : Option Action
  queue      : Option (Fin 8)
  meter      : Option (Option (Fin 128))
  onExceed   : Option OnExceed
  addAllowed : Option Bool
  addHop     : Option (BitVec 4)

/-- Section 10.4, stream entry. Word 0 bits 31..28 lie in no field and are not read (DEDUCED, unsafe: log entry 13). -/
def streamFields (c : Control) : StreamFields where
  label := field (c.word 0) 16 12
  action := decodeAction (field (c.word 0) 0 8)
  queue := decodeQueue (field (c.word 1) 24 8).toNat
  meter := decodeMeter (field (c.word 1) 16 8)
  onExceed := decodeOnExceed (field (c.word 1) 8 8)
  addAllowed := decodeYesNo (field (c.word 1) 0 8)
  addHop := decodeHop (field (c.word 2) 24 8).toNat

/-- Section 10.4: a stream entry as STREAM-READ returns it. -/
def streamRecord (e : StreamEntry) : BitVec 128 :=
  dataWords
    (0#4 ++ e.label ++ entryStateCode e.state ++ actionField e.action)
    (BitVec.ofNat 8 e.queue.val ++ meterField e.meter ++ onExceedField e.onExceed ++ yesNo e.addAllowed)
    (e.addHop.setWidth 8 ++ yesNo e.purge ++ BitVec.ofNat 16 e.queued)
    0

/-! ### Meter record -/

/-- R27: the divider a number names. -/
def decodeDivider (x : Nat) : Option Divider :=
  match x with
  | 1 => some .d1
  | 8 => some .d8
  | 64 => some .d64
  | 512 => some .d512
  | _ => none

/-- R27: a divider as a number. -/
def Divider.toNat : Divider → Nat
  | .d1 => 1
  | .d8 => 8
  | .d64 => 64
  | .d512 => 512

/-- R40, section 10.4: a source, from its kind and its parameter. -/
def decodeSource (kind : BitVec 2) (parameter : BitVec 12) : Option Source :=
  match kind.toNat with
  | 0 => (decodeDivider parameter.toNat).map Source.slots
  | 1 => some (.mark parameter)
  | 2 => if h : parameter.toNat < 128 then some (.cascade ⟨parameter.toNat, h⟩) else none
  | _ => none

/-- Section 10.4: the kind of a source. -/
def sourceKind : Source → BitVec 2
  | .slots _ => 0
  | .mark _ => 1
  | .cascade _ => 2

/-- Section 10.4: the parameter of a source. -/
def sourceParameter : Source → BitVec 12
  | .slots d => BitVec.ofNat 12 d.toNat
  | .mark l => l
  | .cascade m => BitVec.ofNat 12 m.val

/-- R27: a limit, increment or period, 1..65535. -/
def decodeAmount (x : BitVec 16) : Option Nat := if x = 0 then none else some x.toNat

/-- Section 10.4: the five configured fields as METER-SET carries them, each `none` where it is ill-coded. -/
structure MeterFields where
  limit     : Option Nat
  increment : Option Nat
  period    : Option Nat
  source    : Option Source
  partner   : Option (Option (Fin 128))

/-- Section 10.4, meter. -/
def meterFields (c : Control) : MeterFields where
  limit := decodeAmount (field (c.word 0) 16 16)
  increment := decodeAmount (field (c.word 0) 0 16)
  period := decodeAmount (field (c.word 1) 16 16)
  source := decodeSource (field (c.word 2) 30 2) (field (c.word 2) 16 12)
  partner := decodeMeter (field (c.word 2) 8 8)

/-- Section 10.4: a meter as METER-READ and METER-SET return it. -/
def meterRecord (m : Meter) : BitVec 128 :=
  dataWords
    (BitVec.ofNat 16 m.limit ++ BitVec.ofNat 16 m.increment)
    (BitVec.ofNat 16 m.period ++ BitVec.ofNat 16 m.counter)
    (sourceKind m.source ++ 0#2 ++ sourceParameter m.source ++ meterField m.partner ++ yesNo (!m.running))
    (BitVec.ofNat 16 m.credit ++ BitVec.ofNat 16 m.named)

/-! ### Queue record -/

/-- Section 10.4: the three configured fields as QUEUE-SET carries them; fill is `none` where it is ill-coded. -/
structure QueueFields where
  limit       : Nat
  deThreshold : Nat
  fill        : Option Bool

/-- Section 10.4, queue. -/
def queueFields (c : Control) : QueueFields where
  limit := (field (c.word 0) 16 16).toNat
  deThreshold := (field (c.word 0) 0 16).toNat
  fill := decodeYesNo (field (c.word 1) 24 8)

/-- Section 10.4: a queue record, its last word as given. -/
def queueRecord (limit deThreshold : Nat) (fill : Bool) (depth : Nat) (word2 : Word) : BitVec 128 :=
  dataWords (BitVec.ofNat 16 limit ++ BitVec.ofNat 16 deThreshold) (yesNo fill ++ 0#8 ++ BitVec.ofNat 16 depth) word2 0

/-! ### Calendar entry byte -/

/-- Section 10.4: a calendar entry byte; code 0 names no kind, and bits 5..3 are not read. -/
def decodeCalEntry (x : Byte) : Option CalEntry :=
  let q : Fin 8 := Fin.ofNat 8 (x.extractLsb' 0 3).toNat
  match (x.extractLsb' 6 2).toNat with
  | 1 => some { kind := .fixed, queue := q }
  | 2 => some { kind := .preferred, queue := q }
  | 3 => some { kind := .open_, queue := q }
  | _ => none

/-- Section 10.4: the kind code of a calendar entry. -/
def slotKindCode : SlotKind → BitVec 2
  | .fixed => 1
  | .preferred => 2
  | .open_ => 3

/-- Section 10.4: a calendar entry as CAL-READ returns it. -/
def calEntryByte (e : CalEntry) : Byte := slotKindCode e.kind ++ 0#3 ++ BitVec.ofNat 3 e.queue.val

/-- R89: up to sixteen bytes as DATA, list position 0 first, the rest 0. -/
def dataBytes (bs : List Byte) : BitVec 128 :=
  (bs ++ List.replicate (16 - bs.length) 0#8).foldl (fun d b => (d <<< 8) ||| b.setWidth 128) 0

/-! ### Settings (R142, R143) -/

/-- R142, section 10.4: the settings by name. -/
inductive SettingName where
  | unknownPolicy | unknownQueue | dropLimit | reportTarget | reportMask | reportTimeout | reportRetries | sessionTimeout
  | controlHop
  deriving DecidableEq, Repr

/-- Section 10.4: the setting an ARG names. -/
def decodeSetting (x : Byte) : Option SettingName :=
  match x.toNat with
  | 1 => some .unknownPolicy
  | 2 => some .unknownQueue
  | 3 => some .dropLimit
  | 4 => some .reportTarget
  | 5 => some .reportMask
  | 6 => some .reportTimeout
  | 7 => some .reportRetries
  | 8 => some .sessionTimeout
  | 9 => some .controlHop
  | _ => none

/-- R142 to R144, section 10.4: the value of a setting, as SET takes it and GET returns it. -/
def settingValue (x : Settings) : SettingName → Word
  | .unknownPolicy => match x.unknownPolicy with | .forward => 0 | .discard => 1
  | .unknownQueue => BitVec.ofNat 32 x.unknownQueue.val
  | .dropLimit => BitVec.ofNat 32 x.dropLimit
  | .reportTarget => (nodeField x.reportTarget).setWidth 32
  | .reportMask => x.reportMask.setWidth 32
  | .reportTimeout => BitVec.ofNat 32 x.reportTimeout
  | .reportRetries => BitVec.ofNat 32 x.reportRetries
  | .sessionTimeout => BitVec.ofNat 32 x.sessionTimeout
  | .controlHop => x.controlHop.setWidth 32

/-- A number in a range that includes both bounds. -/
def inRange (lo hi x : Nat) : Bool := decide (lo ≤ x) && decide (x ≤ hi)

/-- R143: the settings with one setting given the value a DATA word carries; `none` where the value is out of range or ill-coded. The
whole word is the value's field (R180; DEDUCED, unsafe: log entry 13). -/
def setSetting (x : Settings) (name : SettingName) (w : Word) : Option Settings :=
  match name with
  | .unknownPolicy =>
    if w.toNat = 0 then some { x with unknownPolicy := .forward }
    else if w.toNat = 1 then some { x with unknownPolicy := .discard } else none
  | .unknownQueue => (decodeQueue w.toNat).map fun q => { x with unknownQueue := q }
  | .dropLimit => if inRange 0 512 w.toNat then some { x with dropLimit := w.toNat } else none
  | .reportTarget => (decodeNode w).map fun n => { x with reportTarget := n }
  | .reportMask => if w.toNat < 16384 then some { x with reportMask := w.setWidth 14 } else none
  | .reportTimeout => if inRange 1 255 w.toNat then some { x with reportTimeout := w.toNat } else none
  | .reportRetries => if inRange 0 7 w.toNat then some { x with reportRetries := w.toNat } else none
  | .sessionTimeout => if inRange 1 65535 w.toNat then some { x with sessionTimeout := w.toNat } else none
  | .controlHop => if inRange 1 15 w.toNat then some { x with controlHop := w.setWidth 4 } else none

/-! ### Snapshot commands (R154, section 10.4) -/

/-- Section 10.4: the source in SNAP-TAKE's ARG bits 1..0. -/
def decodeSnapSource (x : Byte) : Option SnapSource :=
  match (x.extractLsb' 0 2).toNat with
  | 0 => some .streams
  | 1 => some .queues
  | 2 => some .device
  | _ => none

/-- Section 10.4: the clear option, SNAP-TAKE's ARG bit 4. -/
def snapClear (x : Byte) : Bool := x.getLsbD 4

/-- Section 10.4: SNAP-TAKE's ARG bits 7..5 and 3..2 must be 0. -/
def snapArgWellCoded (x : Byte) : Bool := (x &&& 0xEC#8) == 0

/-- Section 10.4: the code of a snapshot source. -/
def snapSourceCode : SnapSource → Byte
  | .streams => 0
  | .queues => 1
  | .device => 2

/-- Section 10.4: the code of a record's entry state; 0 where the record has none. -/
def recordStateCode (r : SnapRecord) : Byte :=
  match r.entryState with
  | some e => entryStateCode e
  | none => 0

/-- Section 10.4: a record's four counter words as DATA. -/
def recordWords (r : SnapRecord) : BitVec 128 := dataWords r.word0 r.word1 r.word2 r.word3

end Sys2Proof.Machine
end

