-- ==== Sys2Proof/Machine/Engine.lean ====
section
/-! DEFINITION. The execution of an intake command (R126, R128), the sequence check (R130), the reply cache (R131) and the reply (R124), as
the meanings of the 36 intake commands share them. -/

namespace Sys2Proof.Machine

/-- What a command's rule fills in its reply; every field the rule does not fill is 0 (R124). -/
structure Reply where
  status : Status
  arg    : Byte := 0
  count  : Byte := 0
  index  : BitVec 16 := 0
  data   : BitVec 128 := 0
  deriving DecidableEq, Repr

/-- A reply with a value in DATA word 0 alone. -/
def Reply.word0 (status : Status) (w : Word) : Reply := { status := status, data := dataWords w 0 0 0 }

/-- R124: the reply to command `c`, with *control hop* and node address as they stand in `s`. -/
def State.replyCell (s : State) (c : Control) (r : Reply) : ControlCell where
  header := { kind := .control, label := 0, hop := s.settings.controlHop, de := false, tag := 0 }
  payload :=
    ({ dest := c.src
       src := s.nodeAddress.setWidth 8
       seq := c.seq
       op := c.op
       flags := replyFlags
       status := r.status.code
       arg := r.arg
       count := r.count
       index := r.index
       data := r.data } : Control).toPayload

/-- R127: a reply, without a restart mark, joins the control egress queue. -/
def State.sendReply (s : State) (c : ControlCell) : State := s.joinEgress { cell := c, producer := .reply, mark := none }

/-- R131: the reply becomes the cached reply of session `i`, if that entry is OPEN still. -/
def State.cacheReply (s : State) (i : Fin 4) (c : ControlCell) : State :=
  match s.sess.entries.get i with
  | some x => s.setSession i (some { x with cached := c })
  | none => s

/-- R130: the session's sequence advances to `seq`. -/
def State.advanceSeq (s : State) (i : Fin 4) (seq : Byte) : State :=
  match s.sess.entries.get i with
  | some x => s.setSession i (some { x with lastSeq := seq })
  | none => s

/-- R131: a cached reply is sent again, with the retransmit flag set and its CHECK computed again. -/
def State.resend (s : State) (c : ControlCell) : State := s.sendReply { c with payload := retransmitted c.payload }

/-- What a command's own checks and effects (step 8 of R128) come to: the state, the reply, and the restart mark of the reply (R146). -/
structure Done where
  state : State
  reply : Reply
  mark  : Option RestartKind := none

/-- A command that changes nothing, or one that is refused. -/
def Done.same (s : State) (r : Reply) : Done := { state := s, reply := r }

/-- Step 8 of R128: the result `d` of command `c` in session `i`, worked out from state `s`: its reply is built as `s` stands, cached, and
joins the control egress queue. A refusal is cached as any reply is, a QUEUE-SET's BUSY among them: R128, R131, sections 7.8 and 11.5 say so, and
R67, which defers to chapter 7, says that it is not (DEDUCED, unsafe: log entry 19). -/
def State.conclude (s : State) (c : Control) (i : Fin 4) (d : Done) : State :=
  let cell := s.replyCell c d.reply
  (d.state.cacheReply i cell).joinEgress { cell := cell, producer := .reply, mark := d.mark }

/-- R139: DATA word 0 of a NOT_HOLDER reply. -/
def State.notHolder (s : State) : Reply := Reply.word0 .notHolder ((nodeField s.claimHolder).setWidth 32)

/-- Steps 4 to 8 of R128, for a command that reaches them. `claim` says whether it needs the edit claim (R139), and `own` is its own
checks and effects. -/
def inSession (claim : Control → Bool) (own : Control → Fin 4 → State → Done) (c : Control) (s : State) : State :=
  match s.sessionOf (c.src.setWidth 6) with
  | none => s.sendReply (s.replyCell c { status := .noSession })
  | some i =>
    let s := s.restartIdle i
    match s.sess.entries.get i with
    | none => s
    | some x =>
      if c.seq = x.nextSeq then
        let s := s.advanceSeq i c.seq
        if claim c ∧ s.sess.claim ≠ some i then s.conclude c i (Done.same s s.notHolder)
        else s.conclude c i (own c i s)
      else if c.seq = x.lastSeq then s.resend x.cached
      else s.sendReply (s.replyCell c (Reply.word0 .sequence (x.lastSeq.setWidth 32)))

/-- R126: whether an execution can be taken: intake holds a command, no restart is pending, and the control egress queue has a free
place. The result is the command's cell and the rest of intake. -/
def State.executable (s : State) : Option (ControlCell × List ControlCell) :=
  match s.engine.intake with
  | [] => none
  | k :: rest => if s.engine.restartPending || !s.egressRoom then none else some (k, rest)

/-- R126: the cell leaves intake and COMMANDS_EXECUTED is raised. -/
def State.beginExecution (s : State) (rest : List ControlCell) : State :=
  ({ s with engine := { s.engine with intake := rest } } : State).countDevice .commandsExecuted

/-- R126, R128: the execution of the command at the head of intake, where it is the command `op` (`none`: where its OP names no
command). Step 1 of R128 is made here; `body` is the rest. Where no such execution can be taken, none is (DESIGN CHOICE, log entry 2). -/
def execution (op : Option Op) (body : Control → State → State) (s : State) : State :=
  match s.executable with
  | none => s
  | some (k, rest) =>
    let c := Control.ofPayload k.payload
    if Op.ofCode c.op = op then
      let s := s.beginExecution rest
      if 63 < c.src.toNat then s.sendReply (s.replyCell c { status := .badParam }) else body c s
    else s

/-- A command that needs no claim (R139). -/
def noClaim (_ : Control) : Bool := false

/-- A command that needs the edit claim (R139). -/
def needsClaim (_ : Control) : Bool := true

end Sys2Proof.Machine
end

