-- ==== Sys2Proof/Machine/CalendarCommands.lean ====
section
/-! DEFINITION. The CAL commands (R85 to R91). -/

namespace Sys2Proof.Machine

/-- R86, R89: INDEX and COUNT name up to sixteen entries of a bank. -/
def calRange (c : Control) : Bool :=
  decide (c.index.toNat ≤ 255) && inRange 1 16 c.count.toNat && decide (c.index.toNat + c.count.toNat ≤ 256)

/-- R86: the entries the first COUNT bytes carry, `none` where a kind code names no kind. -/
def calEntries (c : Control) : Option (List CalEntry) :=
  allSome ((List.range c.count.toNat).map fun k => decodeCalEntry (c.byte k))

/-- R86: consecutive entries of a bank are written from index `at_` up. -/
def Bank.write (b : Bank) (at_ : Nat) (es : List CalEntry) : Bank :=
  { b with entries := b.entries.mapIdx fun k old => if k < at_ then old else (es[k - at_]?).getD old }

/-- R86: CAL-WRITE. -/
def ownCalWrite (c : Control) (_ : Fin 4) (s : State) : Done :=
  if calRange c then
    match calEntries c with
    | none => Done.same s { status := .badParam }
    | some es =>
      if s.cal.commitPending then Done.same s { status := .busy }
      else
        { state := { s with cal := s.cal.setShadow (s.cal.shadowBank.write c.index.toNat es) }
          reply := { status := .ok, count := c.count } }
  else Done.same s { status := .badParam }

/-- CAL_WRITE (R86). -/
def execCalWrite (s : State) : Host.Outcome State Fault Refusal :=
  .next (live (execution (some .calWrite) (inSession needsClaim ownCalWrite)) s)

/-- R87: CAL-LENGTH. -/
def ownCalLength (c : Control) (_ : Fin 4) (s : State) : Done :=
  if inRange 1 256 c.index.toNat then
    if s.cal.commitPending then Done.same s { status := .busy }
    else
      { state := { s with cal := s.cal.setShadow { s.cal.shadowBank with length := c.index.toNat } }
        reply := { status := .ok } }
  else Done.same s { status := .badParam }

/-- CAL_LENGTH (R87). -/
def execCalLength (s : State) : Host.Outcome State Fault Refusal :=
  .next (live (execution (some .calLength) (inSession needsClaim ownCalLength)) s)

/-- R88: CAL-COPY. -/
def ownCalCopy (_ : Control) (_ : Fin 4) (s : State) : Done :=
  if s.cal.commitPending then Done.same s { status := .busy }
  else { state := { s with cal := s.cal.setShadow s.cal.activeBank }, reply := { status := .ok } }

/-- CAL_COPY (R88). -/
def execCalCopy (s : State) : Host.Outcome State Fault Refusal :=
  .next (live (execution (some .calCopy) (inSession needsClaim ownCalCopy)) s)

/-- R89, section 10.4: the bank CAL-READ's ARG names. -/
def Calendar.bankNamed (x : Calendar) (arg : Byte) : Option BankName :=
  match arg.toNat with
  | 0 => some .a
  | 1 => some .b
  | 2 => some x.active
  | 3 => some x.active.other
  | _ => none

/-- R89, section 10.4: ARG of the reply: the bank read, whether it is active, and whether a commit is pending. -/
def Calendar.readArg (x : Calendar) (n : BankName) : Byte :=
  bankCode n ||| (if n = x.active then 2#8 else 0#8) ||| (if x.commitPending then 4#8 else 0#8)

/-- R89: CAL-READ. -/
def ownCalRead (c : Control) (_ : Fin 4) (s : State) : Done :=
  match s.cal.bankNamed c.arg with
  | none => Done.same s { status := .badParam }
  | some n =>
    if calRange c then
      let b := s.cal.bank n
      Done.same s
        { status := .ok
          arg := s.cal.readArg n
          index := BitVec.ofNat 16 b.length
          count := BitVec.ofNat 8 s.cal.position
          data := dataBytes ((List.range c.count.toNat).map fun k => calEntryByte (b.entry (c.index.toNat + k))) }
    else Done.same s { status := .badParam }

/-- CAL_READ (R89). -/
def execCalRead (s : State) : Host.Outcome State Fault Refusal :=
  .next (live (execution (some .calRead) (inSession noClaim ownCalRead)) s)

/-- R74, R90: whether a bank holds a PREFERRED or OPEN entry within its length. -/
def Bank.servesControl (b : Bank) : Bool := (b.entries.cells.take b.length).any fun e => e.kind != .fixed

/-- R90: CAL-COMMIT. -/
def ownCalCommit (_ : Control) (_ : Fin 4) (s : State) : Done :=
  if !s.cal.shadowBank.servesControl then Done.same s { status := .badParam }
  else if s.cal.commitPending then Done.same s { status := .pending }
  else { state := { s with cal := { s.cal with commitPending := true } }, reply := { status := .accepted } }

/-- CAL_COMMIT (R90). -/
def execCalCommit (s : State) : Host.Outcome State Fault Refusal :=
  .next (live (execution (some .calCommit) (inSession needsClaim ownCalCommit)) s)

/-- R91: CAL-CANCEL. -/
def ownCalCancel (_ : Control) (_ : Fin 4) (s : State) : Done :=
  if s.cal.commitPending then
    { state := { s with cal := { s.cal with commitPending := false } }
      reply := { status := .ok, arg := detailCancelled } }
  else Done.same s { status := .ok, arg := detailNonePending }

/-- CAL_CANCEL (R91). -/
def execCalCancel (s : State) : Host.Outcome State Fault Refusal :=
  .next (live (execution (some .calCancel) (inSession needsClaim ownCalCancel)) s)

end Sys2Proof.Machine
end

