-- ==== Sys2Proof/Machine/EventCommands.lean ====
section
/-! DEFINITION. The commands of the Event Unit (R171 to R174). -/

namespace Sys2Proof.Machine

/-- Section 10.5: a running timer's value; 0 while stopped. -/
def timerField (t : Option Nat) : Byte := BitVec.ofNat 8 (t.getD 0)

/-- Section 10.5: the words of EVENT-READ. -/
def State.eventWords (s : State) : BitVec 128 :=
  let u := s.events
  dataWords
    (0#2 ++ s.settings.reportMask ++ 0#2 ++ u.flags)
    (0#2 ++ u.renewed ++ 0#2 ++ u.carried)
    (reportStateCode u.reportState ++ u.number ++ BitVec.ofNat 8 u.retriesLeft ++ timerField u.timer)
    (0#30 ++ BitVec.ofBool u.store.isSome ++ BitVec.ofBool u.timer.isSome)

/-- R173: EVENT-READ. -/
def ownEventRead (_ : Control) (_ : Fin 4) (s : State) : Done := Done.same s { status := .ok, data := s.eventWords }

/-- EVENT_READ (R173). -/
def execEventRead (s : State) : Host.Outcome State Fault Refusal :=
  .next (live (execution (some .eventRead) (inSession noClaim ownEventRead)) s)

/-- A reply with two flag sets in DATA words 0 and 1 (section 10.4). -/
def flagSetsReply (detail : Byte) (x y : BitVec 14) : Reply :=
  { status := .ok, arg := detail, data := dataWords (x.setWidth 32) (y.setWidth 32) 0 0 }

/-- R174: EVENT-CLEAR. -/
def ownEventClear (c : Control) (_ : Fin 4) (s : State) : Done :=
  if 16384 ≤ (c.word 0).toNat then Done.same s { status := .badParam }
  else
    let after := s.events.flags &&& ~~~((c.word 0).setWidth 14)
    { state := { s with events := { s.events with flags := after } }
      reply := flagSetsReply 0 s.events.flags after }

/-- EVENT_CLEAR (R174). -/
def execEventClear (s : State) : Host.Outcome State Fault Refusal :=
  .next (live (execution (some .eventClear) (inSession noClaim ownEventClear)) s)

/-- R171, R172: whether the manager node of session `i` is the *report target*. -/
def State.isTarget (s : State) (i : Fin 4) : Bool :=
  match s.settings.reportTarget with
  | none => false
  | some n => decide (s.managerOf i = some n)

/-- R171: the Event Unit after an acknowledgement of its OUTSTANDING or DOWN report. -/
def EventUnit.acknowledge (u : EventUnit) (retries : Nat) : EventUnit :=
  ({ u with flags := u.flags &&& ~~~u.acknowledged } : EventUnit).toIdle retries

/-- R171: DATA word 0 of a STALE reply (section 10.4). -/
def EventUnit.staleWord (u : EventUnit) : Word := 0#16 ++ reportStateCode u.reportState ++ u.number

/-- R171: REPORT-ACK. -/
def ownReportAck (c : Control) (i : Fin 4) (s : State) : Done :=
  let u := s.events
  if !s.isTarget i then Done.same s { status := .notTarget }
  else if 255 < c.index.toNat then Done.same s { status := .badParam }
  else if c.index.toNat ≠ u.number.toNat then Done.same s (Reply.word0 .stale u.staleWord)
  else if u.reportState = .idle then Done.same s { status := .ok, arg := detailNoneOutstanding }
  else
    let v := u.acknowledge s.settings.reportRetries
    { state := { s with events := v }, reply := flagSetsReply detailCleared u.acknowledged v.flags }

/-- REPORT_ACK (R171). -/
def execReportAck (s : State) : Host.Outcome State Fault Refusal :=
  .next (live (execution (some .reportAck) (inSession noClaim ownReportAck)) s)

/-- R172: REPORT-REARM. -/
def ownReportRearm (_ : Control) (i : Fin 4) (s : State) : Done :=
  if !s.isTarget i then Done.same s { status := .notTarget }
  else if s.events.reportState = .down then
    { state := { s with events := s.events.toIdle s.settings.reportRetries }
      reply := { status := .ok, arg := detailRearmed } }
  else Done.same s { status := .ok, arg := detailNoneDown }

/-- REPORT_REARM (R172). -/
def execReportRearm (s : State) : Host.Outcome State Fault Refusal :=
  .next (live (execution (some .reportRearm) (inSession noClaim ownReportRearm)) s)

end Sys2Proof.Machine
end

