-- ==== Sys2Proof/Machine/MeterCommands.lean ====
section
/-! DEFINITION. The METER commands (R39 to R47). -/

namespace Sys2Proof.Machine

/-- R39: the meter an INDEX names. -/
def meterIndex (x : Nat) : Option (Fin 128) := if h : x < 128 then some ⟨x, h⟩ else none

/-- R39: BAD_PARAM with a detail in ARG. -/
def badMeter (detail : Byte) : Reply := { status := .badParam, arg := detail }

/-- R40, R42: the meter METER-SET would leave, its live fields bounded against the new values; `none` where a named field is out of
range or ill-coded. -/
def Meter.changed (x : Meter) (arg : Byte) (f : MeterFields) : Option Meter :=
  match selected arg 0 x.limit f.limit, selected arg 1 x.increment f.increment, selected arg 2 x.period f.period,
      selected arg 3 x.source f.source, selected arg 4 x.partner f.partner with
  | some limit, some increment, some period, some source, some partner =>
    some { x with
      limit := limit
      increment := increment
      period := period
      source := source
      partner := partner
      credit := min x.credit limit
      counter := min x.counter period }
  | _, _, _, _, _ => none

/-- R41, check 3: a named CASCADE source whose index is not lower than the meter's own. -/
def cascadeOutOfOrder (arg : Byte) (m : Fin 128) (source : Source) : Bool :=
  match source with
  | .cascade n => arg.getLsbD 3 && decide (m ≤ n)
  | .slots _ => false
  | .mark _ => false

/-- R41, check 4: a named partner that may not be given to meter `m`. -/
def State.partnerRefused (s : State) (arg : Byte) (m : Fin 128) (partner : Option (Fin 128)) : Bool :=
  match partner with
  | none => false
  | some p => arg.getLsbD 4 && (decide (p = m) || (s.meter p).partner.isSome || decide (0 < (s.meter m).named))

/-- R38: the named count of a meter falls by 1. -/
def State.unname (s : State) (p : Option (Fin 128)) : State :=
  match p with
  | some m => s.setMeter m { s.meter m with named := (s.meter m).named - 1 }
  | none => s

/-- R38: the named count of a meter rises by 1. -/
def State.name (s : State) (p : Option (Fin 128)) : State :=
  match p with
  | some m => s.setMeter m { s.meter m with named := (s.meter m).named + 1 }
  | none => s

/-- R38, R42: meter `m` takes the value `x`, and the named counts of its old and its new partner follow. -/
def State.writeMeter (s : State) (m : Fin 128) (x : Meter) : State :=
  let old := (s.meter m).partner
  let s := s.setMeter m x
  if x.partner = old then s else (s.unname old).name x.partner

/-- R41, R42: METER-SET. -/
def ownMeterSet (c : Control) (_ : Fin 4) (s : State) : Done :=
  match meterIndex c.index.toNat with
  | none => Done.same s (badMeter detailRange)
  | some m =>
    match (s.meter m).changed c.arg (meterFields c) with
    | none => Done.same s (badMeter detailRange)
    | some x =>
      if cascadeOutOfOrder c.arg m x.source then Done.same s (badMeter detailCascadeOrder)
      else if s.partnerRefused c.arg m x.partner then Done.same s (badMeter detailPartner)
      else
        let t := s.writeMeter m x
        { state := t, reply := { status := .ok, data := meterRecord (t.meter m) } }

/-- METER_SET (R41). -/
def execMeterSet (s : State) : Host.Outcome State Fault Refusal :=
  .next (live (execution (some .meterSet) (inSession needsClaim ownMeterSet)) s)

/-- R44: METER-READ. -/
def ownMeterRead (c : Control) (_ : Fin 4) (s : State) : Done :=
  match meterIndex c.index.toNat with
  | none => Done.same s (badMeter detailRange)
  | some m => Done.same s { status := .ok, data := meterRecord (s.meter m) }

/-- METER_READ (R44). -/
def execMeterRead (s : State) : Host.Outcome State Fault Refusal :=
  .next (live (execution (some .meterRead) (inSession noClaim ownMeterRead)) s)

/-- R45: the meters METER-HOLD and METER-RUN list, each DATA word read whole as a number; `none` where COUNT or an index is out of
range. -/
def meterList (c : Control) : Option (List (Fin 128)) :=
  if inRange 1 4 c.count.toNat then
    allSome ((List.range c.count.toNat).map fun k => meterIndex (c.word k).toNat)
  else none

/-- R45, R46: the run state of a list of meters becomes `running`. -/
def State.setRunning (s : State) (running : Bool) (ms : List (Fin 128)) : State :=
  ms.foldl (fun t m => t.setMeter m { t.meter m with running := running }) s

/-- R45, R46: the number of distinct listed meters whose run state was not `running`. -/
def State.notYet (s : State) (running : Bool) (ms : List (Fin 128)) : Nat :=
  (ms.dedup.filter fun m => (s.meter m).running != running).length

/-- R45, R46: METER-HOLD and METER-RUN. -/
def setRunState (running : Bool) (c : Control) (s : State) : Done :=
  match meterList c with
  | none => Done.same s (badMeter detailRange)
  | some ms =>
    { state := s.setRunning running ms, reply := { status := .ok, arg := BitVec.ofNat 8 (s.notYet running ms) } }

/-- R45: METER-HOLD. -/
def ownMeterHold (c : Control) (_ : Fin 4) (s : State) : Done := setRunState false c s

/-- METER_HOLD (R45). -/
def execMeterHold (s : State) : Host.Outcome State Fault Refusal :=
  .next (live (execution (some .meterHold) (inSession needsClaim ownMeterHold)) s)

/-- R46: METER-RUN. -/
def ownMeterRun (c : Control) (_ : Fin 4) (s : State) : Done := setRunState true c s

/-- METER_RUN (R46). -/
def execMeterRun (s : State) : Host.Outcome State Fault Refusal :=
  .next (live (execution (some .meterRun) (inSession needsClaim ownMeterRun)) s)

/-- R47: METER-RELOAD. -/
def ownMeterReload (c : Control) (_ : Fin 4) (s : State) : Done :=
  match meterIndex c.index.toNat with
  | none => Done.same s (badMeter detailRange)
  | some m => { state := s.setMeter m (s.meter m).reloaded, reply := { status := .ok } }

/-- METER_RELOAD (R47). -/
def execMeterReload (s : State) : Host.Outcome State Fault Refusal :=
  .next (live (execution (some .meterReload) (inSession needsClaim ownMeterReload)) s)

end Sys2Proof.Machine
end

