-- ==== Sys2Proof/Machine/Meters.lean ====
section
/-! DEFINITION. Source events at the meters (R28 to R33) and the expiry of a meter (R32). -/

namespace Sys2Proof.Machine

/-- R28: whether a source event of origin `o` matches source `x`. -/
def Source.matches (x : Source) (o : Origin) : Bool :=
  match x, o with
  | .slots d, .slot v => decide (v.toNat % d.toNat = 0)
  | .mark l, .mark k => decide (l = k)
  | .cascade m, .cascade n => decide (m = n)
  | _, _ => false

/-- R32: the meter's own values after an expiry. -/
def Meter.expired (x : Meter) : Meter := { x with counter := x.period, credit := min (x.credit + x.increment) x.limit }

/-- R31, R32: meter `m` expires, and one cascade source event is handed to its subscribers. -/
def State.expireMeter (s : State) (m : Fin 128) : State :=
  (s.setMeter m (s.meter m).expired).handSource (.cascade m) fun x => x.source = .cascade m

/-- R28, R32, R33: a source event of origin `o` is taken at meter `m`. -/
def State.sourceAt (s : State) (o : Origin) (m : Fin 128) : State :=
  let x := s.meter m
  if x.running ∧ x.source.matches o then
    if 1 < x.counter then s.setMeter m { x with counter := x.counter - 1 } else s.expireMeter m
  else s

/-- A source event is taken from those on their way: the oldest one accepted by `p` that is on its way to meter `m`, or, where no meter
is named, the oldest one accepted by `p`, at every meter it has still to reach. The result is its origin, the meters at which it is
taken, and what is then still on its way. DESIGN CHOICE, unsafe: log entry 4. -/
def takeSource (p : Origin → Bool) (at_ : Option (Fin 128)) :
    List SourceEvent → Option (Origin × List (Fin 128) × List SourceEvent)
  | [] => none
  | e :: es =>
    match p e.origin, at_ with
    | true, none => some (e.origin, e.targets, es)
    | true, some m =>
      if m ∈ e.targets then
        match e.targets.erase m with
        | [] => some (e.origin, [m], es)
        | t :: ts => some (e.origin, [m], { e with targets := t :: ts } :: es)
      else (takeSource p at_ es).map fun r => (r.1, r.2.1, e :: r.2.2)
    | false, _ => (takeSource p at_ es).map fun r => (r.1, r.2.1, e :: r.2.2)

/-- A meter operand: `none` where it names no meter of the bank. -/
def meterOperand (m : Nat) : Option (Fin 128) := if h : m < 128 then some ⟨m, h⟩ else none

/-- R28: the oldest source event accepted by `p` is taken, at the meters `at_` tells. Where none is on its way, none is taken. -/
def State.takeSourceEvent (p : Origin → Bool) (at_ : Option (Fin 128)) (s : State) : State :=
  match takeSource p at_ s.handover.sources with
  | none => s
  | some (o, ms, rest) =>
    ms.foldl (fun t m => t.sourceAt o m) { s with handover := { s.handover with sources := rest } }

/-- The same with the meter operand of a command; an operand that names no meter takes nothing. -/
def State.takeSourceOperand (p : Origin → Bool) (at_ : Option Nat) (s : State) : State :=
  match at_ with
  | none => s.takeSourceEvent p none
  | some n =>
    match meterOperand n with
    | none => s
    | some m => s.takeSourceEvent p (some m)

/-- R29: an origin that is a slot divider value. -/
def Origin.isSlot : Origin → Bool
  | .slot _ => true
  | .mark _ => false
  | .cascade _ => false

/-- R30: an origin that is a MARK of the given label. -/
def Origin.isMark (label : Nat) : Origin → Bool
  | .slot _ => false
  | .mark l => decide (l.toNat = label)
  | .cascade _ => false

/-- R31: an origin that is an expiry of the given meter. -/
def Origin.isCascade (origin : Nat) : Origin → Bool
  | .slot _ => false
  | .mark _ => false
  | .cascade m => decide (m.val = origin)

/-- SLOT_SOURCE_EVENT (R29). -/
def execSlotSourceEvent (at_ : Option Nat) (s : State) : Host.Outcome State Fault Refusal :=
  .next (live (State.takeSourceOperand Origin.isSlot at_) s)

/-- MARK_SOURCE_EVENT (R30). -/
def execMarkSourceEvent (label : Nat) (at_ : Option Nat) (s : State) : Host.Outcome State Fault Refusal :=
  .next (live (State.takeSourceOperand (Origin.isMark label) at_) s)

/-- CASCADE_SOURCE_EVENT (R31). -/
def execCascadeSourceEvent (origin : Nat) (at_ : Option Nat) (s : State) : Host.Outcome State Fault Refusal :=
  .next (live (State.takeSourceOperand (Origin.isCascade origin) at_) s)

/-- R32: the oldest source event on its way to meter `m` that matches its source is taken there, where it finds the meter RUNNING with
its period counter run down to 1, so that the meter expires (DESIGN CHOICE, safe: log entry 3). -/
def State.takeExpiry (meter : Nat) (s : State) : State :=
  match meterOperand meter with
  | none => s
  | some m =>
    let x := s.meter m
    if x.running ∧ x.counter ≤ 1 then s.takeSourceEvent x.source.matches (some m) else s

/-- METER_EXPIRY (R32). -/
def execMeterExpiry (meter : Nat) (s : State) : Host.Outcome State Fault Refusal := .next (live (State.takeExpiry meter) s)

end Sys2Proof.Machine
end

