-- ==== Sys2Proof/Machine/Admission.lean ====
section
/-! DEFINITION. Policing and admission, shared by ring and local cells: the conformance test (R35, R36), admission to an egress queue
(R57 to R59) and to the drop queue (R63). -/

namespace Sys2Proof.Machine

/-- One unit of credit is charged to meter `m`. -/
def State.charge (s : State) (m : Fin 128) : State :=
  s.setMeter m { s.meter m with credit := (s.meter m).credit - 1 }

/-- R35, R36: whether a conformance test at meter `m` finds the cell conforming. -/
def State.conforms (s : State) (m : Fin 128) : Bool :=
  match (s.meter m).partner with
  | none => decide (1 ≤ (s.meter m).credit)
  | some p => decide (1 ≤ (s.meter m).credit) && decide (1 ≤ (s.meter p).credit)

/-- R35, R36: the state after a conformance test at meter `m`: a conforming cell is charged to the meter and to its partner, and a cell
that does not conform charges nothing. -/
def State.tested (s : State) (m : Fin 128) : State :=
  if s.conforms m then
    match (s.meter m).partner with
    | none => s.charge m
    | some p => (s.charge m).charge p
  else s

/-- R57: the outcomes of an admission to an egress queue, in the order of its checks. -/
inductive Verdict where
  | fullByLimit | deThreshold | poolEmpty | accepted
  deriving DecidableEq, Repr

/-- R57: the first check that fails decides. -/
def State.verdict (s : State) (q : Fin 8) (de : Bool) : Verdict :=
  if (s.queue q).limit ≤ (s.queue q).depth then .fullByLimit
  else if de ∧ (s.queue q).deThreshold ≤ (s.queue q).depth then .deThreshold
  else if s.pool.free = 0 then .poolEmpty
  else .accepted

/-- R59: acceptance of a cell into Q`q`. -/
def State.accept (s : State) (q : Fin 8) (c : QueuedCell) : State :=
  let s := s.takeBuffer
  let s := s.setQueue q { s.queue q with cells := (s.queue q).cells ++ [c] }
  (s.countQueue q .enqueued).ownerGains c.owner

/-- R57 to R59: an admission request for Q`q`. -/
def State.admitEgress (s : State) (q : Fin 8) (c : QueuedCell) : State :=
  match s.verdict q c.header.de with
  | .fullByLimit => ((s.countQueue q .discardedFull).hand .queueFull).countOther c.header.kind c.owner
  | .deThreshold => (s.countQueue q .discardedDe).countOther c.header.kind c.owner
  | .poolEmpty =>
    (((s.countQueue q .discardedFull).countDevice .poolEmptyDiscards).hand .poolEmpty).countOther c.header.kind c.owner
  | .accepted => s.accept q c

/-- R63: an admission request for the drop queue, for a cell that matched entry `i`. -/
def State.admitDrop (s : State) (i : Fin 256) (c : RawCell) : State :=
  let kind := (Header.ofWord c.header).kind
  if s.settings.dropLimit ≤ s.pool.drop.length then
    ((s.countDevice .dropFullDiscards).hand .dropFull).countOther kind (some i)
  else if s.pool.free = 0 then
    ((((s.countDevice .dropFullDiscards).countDevice .poolEmptyDiscards).hand .dropFull).hand .poolEmpty).countOther kind (some i)
  else
    let s := s.takeBuffer
    { s with pool := { s.pool with drop := s.pool.drop ++ [c] } }

/-- R9, R10, R15: policing of a DATA cell under entry `i`, whose fields `e` were read at the lookup, and then its admission. -/
def State.policeAndAdmit (s : State) (i : Fin 256) (e : StreamEntry) (h : Header) (p : Payload) : State :=
  match e.meter with
  | none => s.admitEgress e.queue { header := h, payload := p, owner := some i }
  | some m =>
    let t := s.tested m
    if s.conforms m then t.admitEgress e.queue { header := h, payload := p, owner := some i }
    else
      match e.onExceed with
      | .mark => (t.countStream i .marked).admitEgress e.queue { header := { h with de := true }, payload := p, owner := some i }
      | .discard => t.countStream i .discardedPolice

/-- R8: a cell fails the hop check. -/
def State.expireHop (s : State) : State := (s.countDevice .hopExpired).hand .hopExpired

/-- R8 to R10, R13: the forward part of a ring cell under entry `i`: hop check, policing for a DATA cell, admission. -/
def State.forwardPart (s : State) (i : Fin 256) (e : StreamEntry) (h : Header) (p : Payload) : State :=
  if h.hop = 0 then s.expireHop.countOther h.kind (some i)
  else if h.kind = .data then s.policeAndAdmit i e h p
  else s.admitEgress e.queue { header := h, payload := p, owner := some i }

end Sys2Proof.Machine
end

