-- ==== Sys2Proof/Machine/Port.lean ====
section
/-! DEFINITION. The Local Port: the add side (R111 to R115), the hand-over of completed cells to the Stream Table (R116, R14, R15) and the
drop side (R118, R119, R64). -/

namespace Sys2Proof.Machine

/-- The add side with another open cell. -/
def State.setOpen (s : State) (x : OpenCell) : State := { s with port := { s.port with openCell := x } }

/-- R113, step 1: an open cell, placed or broken, is discarded and counted once. -/
def State.cutOpen (s : State) : State :=
  match s.port.openCell with
  | .none => s
  | .placed _ => (s.setOpen .none).refuseAdd
  | .broken _ => (s.setOpen .none).refuseAdd

/-- R113: a word strobed with ADD_FIRST high. -/
def State.addFirst (word : Word) (s : State) : State :=
  let s := s.cutOpen
  if s.port.slotsInUse < Config.stagingSlots then s.setOpen (.placed [word]) else s.setOpen (.broken 1)

/-- ADD_WORD_FIRST (R113). The strobe is a rising edge of LCLK (R183). -/
def execAddWordFirst (word : Word) (s : State) : Host.Outcome State Fault Refusal :=
  .next (live (fun t => (State.addFirst word t).portEdge) s)

/-- R114, R115: a word strobed with ADD_FIRST low. -/
def State.addContinue (word : Word) (s : State) : State :=
  match s.port.openCell with
  | .none => s.refuseAdd
  | .placed ws =>
    if ws.length < 7 then s.setOpen (.placed (ws ++ [word]))
    else
      let s := s.setOpen .none
      { s with port := { s.port with completed := s.port.completed ++ [RawCell.ofWords (ws ++ [word])] } }
  | .broken n => if n < 7 then s.setOpen (.broken (n + 1)) else (s.setOpen .none).refuseAdd

/-- ADD_WORD_CONTINUE (R114, R115). -/
def execAddWordContinue (word : Word) (s : State) : Host.Outcome State Fault Refusal :=
  .next (live (fun t => (State.addContinue word t).portEdge) s)

/-- R14, R15: the lookup, the add check, policing and admission of a completed local cell. -/
def State.arriveLocal (s : State) (c : RawCell) : State :=
  let h := Header.ofWord c.header
  if h.kind ≠ .data then s.refuseAdd
  else
    match s.lookup h.label with
    | none => s.refuseAdd
    | some i =>
      let e := s.streams.get i
      if e.state = .retiring then s.refuseAdd.countStream i .discardedOther
      else
        let s := s.countStream i .arrived
        if e.addAllowed then s.policeAndAdmit i e { h with hop := e.addHop } c.payload
        else s.refuseAdd.countStream i .discardedOther

/-- R116: the oldest completed cell leaves staging and arrives at the Stream Table. -/
def State.localArrival (s : State) : State :=
  match s.port.completed with
  | [] => s
  | c :: rest => ({ s with port := { s.port with completed := rest } } : State).arriveLocal c

/-- LOCAL_CELL_ARRIVAL (R116). -/
def execLocalCellArrival (s : State) : Host.Outcome State Fault Refusal := .next (live State.localArrival s)

/-- R119, R64: a DROP_TAKE. -/
def State.takeDrop (s : State) : State :=
  match s.pool.drop with
  | [] => s
  | c :: rest =>
    let k := s.port.deliveryPosition
    let s : State := { s with port := { s.port with presented := c.word k, dropFirst := decide (k = 0) } }
    if k < 7 then { s with port := { s.port with deliveryPosition := k + 1 } }
    else
      ({ s with
        port := { s.port with deliveryPosition := 0 }
        pool := { s.pool with drop := rest } } : State).returnBuffer

/-- DROP_TAKE (R119). The take is a rising edge of LCLK (R183). -/
def execDropTake (s : State) : Host.Outcome State Fault Refusal := .next (live (fun t => t.takeDrop.portEdge) s)

end Sys2Proof.Machine
end

