-- ==== Sys2Proof/Machine/QueueCommands.lean ====
section
/-! DEFINITION. The QUEUE commands (R66, R68). -/

namespace Sys2Proof.Machine

/-- R66, checks 1 to 3: the queue QUEUE-SET would leave, `none` where a named field is out of range or ill-coded, or where a named DE
threshold is above the limit the command would leave. A DE threshold that is not named follows a lower limit down. -/
def EgressQueue.changed (x : EgressQueue) (arg : Byte) (f : QueueFields) : Option EgressQueue :=
  match selected arg 0 x.limit (if f.limit ≤ 512 then some f.limit else none),
      selected arg 1 x.deThreshold (if f.deThreshold ≤ 512 then some f.deThreshold else none),
      selected arg 2 x.fill f.fill with
  | some limit, some deThreshold, some fill =>
    if arg.getLsbD 1 ∧ limit < deThreshold then none
    else
      some { x with
        limit := limit
        deThreshold := if arg.getLsbD 0 ∧ ¬ arg.getLsbD 1 then min deThreshold limit else deThreshold
        fill := fill }
  | _, _, _ => none

/-- R66: QUEUE-SET. -/
def ownQueueSet (c : Control) (_ : Fin 4) (s : State) : Done :=
  match decodeQueue c.index.toNat with
  | none => Done.same s { status := .badParam }
  | some q =>
    match (s.queue q).changed c.arg (queueFields c) with
    | none => Done.same s { status := .badParam }
    | some x =>
      if c.arg.getLsbD 0 ∧ x.limit < x.depth then Done.same s { status := .busy }
      else
        { state := s.setQueue q x
          reply := { status := .ok, data := queueRecord x.limit x.deThreshold x.fill x.depth 0 } }

/-- QUEUE_SET (R66). -/
def execQueueSet (s : State) : Host.Outcome State Fault Refusal :=
  .next (live (execution (some .queueSet) (inSession needsClaim ownQueueSet)) s)

/-- R68: QUEUE-READ. -/
def ownQueueRead (c : Control) (_ : Fin 4) (s : State) : Done :=
  let free : Word := BitVec.ofNat 32 s.pool.free
  match decodeQueue c.index.toNat with
  | some q =>
    let x := s.queue q
    Done.same s { status := .ok, data := queueRecord x.limit x.deThreshold x.fill x.depth free }
  | none =>
    if c.index.toNat = 8 then
      Done.same s { status := .ok, data := queueRecord s.settings.dropLimit 0 false s.pool.drop.length free }
    else Done.same s { status := .badParam }

/-- QUEUE_READ (R68). -/
def execQueueRead (s : State) : Host.Outcome State Fault Refusal :=
  .next (live (execution (some .queueRead) (inSession noClaim ownQueueRead)) s)

end Sys2Proof.Machine
end

