-- ==== Sys2Proof/Machine/Reports.lean ====
section
/-! DEFINITION. The Event Unit's own events: the setting of a flag (R162, R170), the build and the issue of a report (R165 to R167) and the
completion of a sending (R168). -/

namespace Sys2Proof.Machine

/-- The list less its first `x`, or `none` where it holds none. -/
def takeFirst {α : Type} [DecidableEq α] (x : α) (l : List α) : Option (List α) :=
  if x ∈ l then some (l.erase x) else none

/-- R162: an occurrence of `f` handed to the Event Unit is taken there; where none was handed over, none is taken. -/
def State.setFlag (f : EventFlag) (s : State) : State :=
  match takeFirst f s.handover.flags with
  | none => s
  | some rest => { s with events := s.events.occurrence f, handover := { s.handover with flags := rest } }

/-- EVENT_FLAG_SET (R162). The setting hands nothing over, so it runs on the handed-over list itself. -/
def execEventFlagSet (flag : EventFlag) (s : State) : Host.Outcome State Fault Refusal :=
  .next (if s.resetHeld then s else s.setFlag flag)

/-- R165: the conditions of a build, for a target. -/
def State.buildDue (s : State) : Bool :=
  decide (s.events.reportState = .idle) && decide (reportable s.events s.settings.reportMask ≠ 0)

/-- R166: the report built now for node `target`. -/
def State.reportCell (s : State) (target : BitVec 6) : ControlCell where
  header := { kind := .control, label := 0, hop := s.settings.controlHop, de := false, tag := 0 }
  payload :=
    ({ dest := target.setWidth 8
       src := s.nodeAddress.setWidth 8
       seq := s.events.number + 1
       op := reportCode
       flags := unsolicitedFlags
       status := 0
       arg := 0
       count := 0
       index := 0
       data := dataWords
         ((reportable s.events s.settings.reportMask).setWidth 32)
         (s.events.flags.setWidth 32)
         ((rxStateCode s.rx.state).setWidth 32)
         (BitVec.ofNat 32 s.pool.free) } : Control).toPayload

/-- R165: the build of a report, which puts it in the store (DESIGN CHOICE, safe: log entry 5). -/
def State.buildReport (s : State) : State :=
  match s.settings.reportTarget with
  | none => s
  | some target =>
    if s.buildDue then
      { s with events := { s.events with
        number := s.events.number + 1
        carried := reportable s.events s.settings.reportMask
        renewed := 0
        retriesLeft := s.settings.reportRetries
        timer := none
        store := some (s.reportCell target)
        present := some (s.reportCell target)
        reportState := .outstanding } }
    else s

/-- REPORT_BUILD (R165). -/
def execReportBuild (s : State) : Host.Outcome State Fault Refusal := .next (live State.buildReport s)

/-- R167: the report in the store joins the control egress queue where a place is free. -/
def State.issueReport (s : State) : State :=
  match s.events.store with
  | none => s
  | some c =>
    if s.egressRoom then
      ({ s with events := { s.events with store := none } } : State).joinEgress { cell := c, producer := .report, mark := none }
    else s

/-- REPORT_ISSUE (R167). -/
def execReportIssue (s : State) : Host.Outcome State Fault Refusal := .next (live State.issueReport s)

/-- R168: the completion of a report cell with number `seq` is taken by the Event Unit. -/
def EventUnit.sendingComplete (u : EventUnit) (seq : Byte) : EventUnit :=
  if u.reportState = .outstanding ∧ seq = u.number then { u with timer := some 0 } else u

/-- R168: the oldest completion handed over is taken. -/
def State.sendingComplete (s : State) : State :=
  match s.handover.reportsSent with
  | [] => s
  | n :: rest =>
    { s with events := s.events.sendingComplete n, handover := { s.handover with reportsSent := rest } }

/-- REPORT_SENDING_COMPLETE (R168). -/
def execReportSendingComplete (s : State) : Host.Outcome State Fault Refusal := .next (live State.sendingComplete s)

end Sys2Proof.Machine
end

