-- ==== Sys2Proof/Machine/Reset.lean ====
section
/-! DEFINITION. The reset pin: power-on (R105, R109, R148) and the release of the pin (R101, R121, R122). -/

namespace Sys2Proof.Machine

/-- POWER_ON: power-up, or assertion of the reset pin, at any moment. -/
def execPowerOn (s : State) : Host.Outcome State Fault Refusal := .next s.powerOn

/-- R101, R121: the pin is released: the straps are sampled, ADD_SPACE is high, and every block starts from its power-on values. -/
def State.releasePin (s : State) (straps : BitVec 6) : State :=
  if s.resetHeld then
    { s with resetHeld := false, nodeAddress := straps, port := { s.port with addSpacePin := true } }
  else s

/-- RESET_PIN_RELEASE (R101). A pin that is not held is not released (DESIGN CHOICE, log entry 7). -/
def execResetPinRelease (straps : BitVec 6) (s : State) : Host.Outcome State Fault Refusal := .next (s.releasePin straps)

end Sys2Proof.Machine
end

