-- ==== Sys2Proof/Machine/Ring.lean ====
section
/-! DEFINITION. The Ring Receiver: delineation (R95 to R98), hand-on and sorting (R99, R100), the lookup of ring cells (R4 to R13) and
the routing of CONTROL cells (R102 to R104). -/

namespace Sys2Proof.Machine

/-- R96: the window after one more byte: the four bytes most recently received. -/
def slideWindow (w : List Byte) (b : Byte) : List Byte := (w ++ [b]).drop (w.length + 1 - 4)

/-- R96: whether a window is a good header; fewer than four bytes form none (DEDUCED, unsafe: log entry 9). -/
def goodWindow : List Byte → Bool
  | [b0, b1, b2, b3] => goodHeader (b0 ++ b1 ++ b2 ++ b3)
  | _ => false

/-- The four bytes of a header, first received first. -/
def headerBytes (w : Word) : List Byte :=
  [w.extractLsb' 24 8, w.extractLsb' 16 8, w.extractLsb' 8 8, w.extractLsb' 0 8]

/-- R96: a byte is received in HUNT. -/
def Receiver.hunt (r : Receiver) (b : Byte) : Receiver :=
  let w := slideWindow r.window b
  let n := r.position + 1
  if goodWindow w then
    { r with state := .presync, goodRun := 0, boundary := some (n + Config.cellBytes), position := n, window := w }
  else { r with position := n, window := w }

/-- R96. In PRESYNC and SYNC no window but the one at the boundary is tested. -/
def State.huntByte (b : Byte) (s : State) : State :=
  if s.rx.state = .hunt then { s with rx := s.rx.hunt b } else s

/-- HUNT_WINDOW_TEST (R96). -/
def execHuntWindowTest (byte : Byte) (s : State) : Host.Outcome State Fault Refusal := .next (live (State.huntByte byte) s)

/-- R97: a good header at the boundary in PRESYNC, which ends at byte `n`. -/
def State.presyncGood (n : Nat) (w : Word) (s : State) : State :=
  let r := { s.rx with
    goodRun := s.rx.goodRun + 1
    boundary := some (n + Config.cellBytes)
    position := n
    window := headerBytes w }
  if s.rx.goodRun + 1 = Config.goodRunForSync then
    ({ s with rx := { r with state := .sync, badRun := 0 } } : State).hand .syncGained
  else { s with rx := r }

/-- R97: a bad header at the boundary in PRESYNC; in HUNT the runs are held at 0 and there is no boundary (R95). -/
def State.presyncBad (n : Nat) (w : Word) (s : State) : State :=
  { s with rx := { s.rx with state := .hunt, goodRun := 0, badRun := 0, boundary := none, position := n, window := headerBytes w } }

/-- R98: a good header at the boundary in SYNC: the cell becomes the arriving cell. -/
def State.syncGood (n : Nat) (w : Word) (s : State) : State :=
  { s with rx := { s.rx with
    badRun := 0, boundary := some (n + Config.cellBytes), arriving := some w, position := n, window := headerBytes w } }

/-- R98: a bad header at the boundary in SYNC; the seventh in a row loses the framing. -/
def State.syncBad (n : Nat) (w : Word) (s : State) : State :=
  let t := (s.countDevice .headerErrors).hand .headerError
  if s.rx.badRun + 1 = Config.badRunForHunt then
    let t : State := { t with rx := { t.rx with
      state := .hunt, goodRun := 0, badRun := 0, boundary := none, position := n, window := headerBytes w } }
    (t.hand .syncLost).countDevice .syncLosses
  else
    { t with rx := { t.rx with
      badRun := s.rx.badRun + 1, boundary := some (n + Config.cellBytes), position := n, window := headerBytes w } }

/-- R97, R98: the header test at a boundary. The arriving cell is always handed on before the next boundary (R99), and in HUNT there
is no boundary (R95); there the test is not taken (DESIGN CHOICE, log entry 10). -/
def State.testHeader (w : Word) (s : State) : State :=
  match s.rx.boundary, s.rx.arriving with
  | some n, none =>
    match s.rx.state with
    | .hunt => s
    | .presync => if goodHeader w then s.presyncGood n w else s.presyncBad n w
    | .sync => if goodHeader w then s.syncGood n w else s.syncBad n w
  | _, _ => s

/-- HEADER_TEST (R97, R98). -/
def execHeaderTest (header : Word) (s : State) : Host.Outcome State Fault Refusal := .next (live (State.testHeader header) s)

/-! ### Lookup of ring cells (R4 to R13) -/

/-- R6: a ring cell that matches no entry. -/
def State.unknownLabel (s : State) (h : Header) (p : Payload) : State :=
  let s := (s.countDevice .unknownLabel).hand .unknownLabel
  match s.settings.unknownPolicy with
  | .discard => s
  | .forward =>
    if h.hop = 0 then s.expireHop else s.admitEgress s.settings.unknownQueue { header := h, payload := p, owner := none }

/-- R11, R13: the action of ACTIVE entry `i`, with fields `e`, on a ring cell. -/
def State.applyAction (s : State) (i : Fin 256) (e : StreamEntry) (c : RawCell) : State :=
  let h := Header.ofWord c.header
  match e.action with
  | .forward => s.forwardPart i e h c.payload
  | .drop => s.admitDrop i c
  | .copy => (s.admitDrop i c).forwardPart i e h c.payload
  | .discard => s.countOther h.kind (some i)

/-- R4, R5, R7: the lookup of a ring DATA or MARK cell. -/
def State.lookupRing (s : State) (c : RawCell) : State :=
  let h := Header.ofWord c.header
  match s.lookup h.label with
  | none => s.unknownLabel h c.payload
  | some i =>
    let e := s.streams.get i
    if e.state = .retiring then (s.countDevice .retiringDiscards).countOther h.kind (some i)
    else (if h.kind = .data then s.countStream i .arrived else s).applyAction i e c

/-! ### Control routing (R102 to R104) -/

/-- R103: a cell routed to intake. -/
def State.toIntake (s : State) (c : ControlCell) : State :=
  if !goodPayload c.payload then s.countDevice .controlCheckErrors
  else if Config.intakePlaces ≤ s.engine.intake.length then (s.countDevice .controlIntakeLost).hand .controlLost
  else { s with engine := { s.engine with intake := s.engine.intake ++ [c] } }

/-- R104: a cell routed to transit. -/
def State.toTransit (s : State) (c : ControlCell) : State :=
  if c.header.hop = 0 then s.expireHop
  else if s.egressRoom then
    s.joinEgress
      { cell := { c with header := { c.header with hop := c.header.hop - 1 } }, producer := .transit, mark := none }
  else (s.countDevice .controlEgressLost).hand .controlLost

/-- R102: the routing of a CONTROL cell. -/
def State.routeControl (s : State) (c : ControlCell) : State :=
  let k := Control.ofPayload c.payload
  if k.broadcastFlag then
    if !k.replyFlag && k.op == discoverCode then (s.toIntake c).toTransit c else s.toTransit c
  else if k.dest = s.nodeAddress.setWidth 8 then
    if k.replyFlag then s.countDevice .controlMisrouted else s.toIntake c
  else s.toTransit c

/-! ### Hand-on (R99, R100) -/

/-- R12, R30: the MARK source event of a ring MARK cell. -/
def State.markSource (s : State) (label : BitVec 12) : State :=
  s.handSource (.mark label) fun m => m.source = .mark label

/-- R100: sorting by kind. -/
def State.sortCell (s : State) (c : RawCell) : State :=
  let h := Header.ofWord c.header
  match h.kind with
  | .idle => s
  | .data => s.lookupRing c
  | .mark => (s.markSource h.label).lookupRing c
  | .control => s.routeControl { header := h, payload := c.payload }
  | .unknown4 => s.countDevice .unknownKind
  | .unknown5 => s.countDevice .unknownKind
  | .unknown6 => s.countDevice .unknownKind
  | .unknown7 => s.countDevice .unknownKind

/-- R99: the arriving cell's 32nd byte is received: the store is emptied and the cell handed on. The last payload byte is the fourth
before the boundary. -/
def State.handOn (payload : Payload) (s : State) : State :=
  match s.rx.arriving with
  | none => s
  | some w =>
    ({ s with rx := { s.rx with
      arriving := none
      position := s.rx.position + (Config.cellBytes - 4)
      window := headerBytes (payload.setWidth 32) } } : State).sortCell { header := w, payload := payload }

/-- RING_CELL_ARRIVAL (R99, R100). -/
def execRingCellArrival (payload : Payload) (s : State) : Host.Outcome State Fault Refusal :=
  .next (live (State.handOn payload) s)

end Sys2Proof.Machine
end

