-- ==== Sys2Proof/Machine/Sessions.lean ====
section
/-! DEFINITION. BAD_OP, the session commands (R135 to R138), the edit claim (R140, R141), the settings (R143, R144, R175), STATUS (R145) and
RESTART (R146). -/

namespace Sys2Proof.Machine

/-- Step 6 of R128: OP names no command. -/
def ownBadOp (_ : Control) (_ : Fin 4) (s : State) : Done := Done.same s { status := .badOp }

/-- BAD_OP (R128). -/
def execBadOp (s : State) : Host.Outcome State Fault Refusal := .next (live (execution none (inSession noClaim ownBadOp)) s)

/-- R182: the identity words. -/
def State.identity (s : State) : BitVec 128 :=
  dataWords
    (Config.vendorCode ++ Config.partCode)
    (Config.revision ++ s.nodeAddress.setWidth 8 ++ BitVec.ofNat 8 s.freeSessions ++ 4#8)
    (256#16 ++ 512#16)
    (128#8 ++ 8#8 ++ 256#16)

/-- R132, R135: DISCOVER. -/
def bodyDiscover (c : Control) (s : State) : State :=
  let cell := s.replyCell c { status := .ok, data := s.identity }
  (match s.sessionOf (c.src.setWidth 6) with
   | some i => s.restartIdle i
   | none => s).sendReply cell

/-- DISCOVER (R135). -/
def execDiscover (s : State) : Host.Outcome State Fault Refusal := .next (live (execution (some .discover) bodyDiscover) s)

/-- R136: the reply of a new session: *session timeout*, the claim holder and the FREE entries, all after the OPEN (DEDUCED, unsafe: log entry 14). -/
def State.openReply (s : State) : Reply where
  status := .ok
  data := dataWords (BitVec.ofNat 32 s.settings.sessionTimeout) ((nodeField s.claimHolder).setWidth 32)
    (BitVec.ofNat 32 s.freeSessions) 0

/-- R136: a new session for the sender in entry `i`, and its reply, which is cached. -/
def State.newSession (s : State) (c : Control) (i : Fin 4) : State :=
  let fresh (k : ControlCell) : Session := { manager := c.src.setWidth 6, lastSeq := c.seq, cached := k, idleTimer := 0 }
  let t := s.setSession i (some (fresh { header := .idle, payload := 0 }))
  let cell := t.replyCell c t.openReply
  (s.setSession i (some (fresh cell))).sendReply cell

/-- R136, case 1: the session's cached reply is the reply to an OPEN with this SEQ. -/
def answersOpen (x : Session) (seq : Byte) : Bool :=
  let k := Control.ofPayload x.cached.payload
  k.op == openCode && k.seq == seq

/-- R136: the four cases of OPEN. -/
def bodyOpen (c : Control) (s : State) : State :=
  match s.sessionOf (c.src.setWidth 6) with
  | some i =>
    match s.sess.entries.get i with
    | none => s
    | some x =>
      if answersOpen x c.seq then (s.restartIdle i).resend x.cached
      else ((s.teardown i).hand .sessionEnded).newSession c i
  | none =>
    match s.sess.entries.find? Option.isNone with
    | some i => s.newSession c i
    | none => s.sendReply (s.replyCell c { status := .sessionsFull })

/-- OPEN (R136). -/
def execOpenSession (s : State) : Host.Outcome State Fault Refusal :=
  .next (live (execution (some .openSession) bodyOpen) s)

/-- R137: CLOSE. The session is torn down without SESSION_ENDED, so its reply is not kept. -/
def ownClose (_ : Control) (i : Fin 4) (s : State) : Done := { state := s.teardown i, reply := { status := .ok } }

/-- CLOSE (R137). -/
def execCloseSession (s : State) : Host.Outcome State Fault Refusal :=
  .next (live (execution (some .closeSession) (inSession noClaim ownClose)) s)

/-- R138: PING. -/
def ownPing (_ : Control) (_ : Fin 4) (s : State) : Done := Done.same s { status := .ok }

/-- PING (R138). -/
def execPing (s : State) : Host.Outcome State Fault Refusal :=
  .next (live (execution (some .ping) (inSession noClaim ownPing)) s)

/-- R140: CLAIM. -/
def ownClaim (_ : Control) (i : Fin 4) (s : State) : Done :=
  match s.sess.claim with
  | none => { state := { s with sess := { s.sess with claim := some i } }, reply := { status := .ok } }
  | some j => if j = i then Done.same s { status := .ok } else Done.same s s.notHolder

/-- CLAIM (R140). -/
def execClaim (s : State) : Host.Outcome State Fault Refusal :=
  .next (live (execution (some .claim) (inSession noClaim ownClaim)) s)

/-- R141: RELEASE. -/
def ownRelease (_ : Control) (i : Fin 4) (s : State) : Done :=
  if s.sess.claim = some i then
    { state := { s with sess := { s.sess with claim := none } }, reply := { status := .ok } }
  else Done.same s s.notHolder

/-- RELEASE (R141). -/
def execRelease (s : State) : Host.Outcome State Fault Refusal :=
  .next (live (execution (some .release) (inSession noClaim ownRelease)) s)

/-- R175: the Event Unit after the settings `x` are in force: a *report target* that changed abandons an OUTSTANDING or DOWN report. -/
def EventUnit.settingsChanged (u : EventUnit) (old new : Settings) : EventUnit :=
  if old.reportTarget ≠ new.reportTarget ∧ u.reportState ≠ .idle then u.toIdle new.reportRetries else u

/-- R65, R143: SET. -/
def ownSet (c : Control) (_ : Fin 4) (s : State) : Done :=
  match decodeSetting c.arg with
  | none => Done.same s { status := .badParam }
  | some name =>
    match setSetting s.settings name (c.word 0) with
    | none => Done.same s { status := .badParam }
    | some x =>
      if name = .dropLimit ∧ x.dropLimit < s.pool.drop.length then Done.same s { status := .busy }
      else
        { state := { s with settings := x, events := s.events.settingsChanged s.settings x }
          reply := Reply.word0 .ok (settingValue x name) }

/-- SET (R143). -/
def execSet (s : State) : Host.Outcome State Fault Refusal :=
  .next (live (execution (some .set) (inSession needsClaim ownSet)) s)

/-- R144: GET. -/
def ownGet (c : Control) (_ : Fin 4) (s : State) : Done :=
  match decodeSetting c.arg with
  | none => Done.same s { status := .badParam }
  | some name => Done.same s (Reply.word0 .ok (settingValue s.settings name))

/-- GET (R144). -/
def execGet (s : State) : Host.Outcome State Fault Refusal :=
  .next (live (execution (some .get) (inSession noClaim ownGet)) s)

/-- R145, section 10.5: the words of STATUS. -/
def State.statusWords (s : State) : BitVec 128 :=
  dataWords
    (rxStateCode s.rx.state ++ bankCode s.cal.active ++ yesNo s.cal.commitPending ++ lastResetCode s.engine.lastReset)
    (BitVec.ofNat 16 s.pool.free ++ reportStateCode s.events.reportState ++ s.events.number)
    (nodeField s.claimHolder ++ BitVec.ofNat 8 s.openSessions ++ BitVec.ofNat 8 s.engine.intake.length
      ++ BitVec.ofNat 8 s.engine.egress.length)
    0

/-- R145: STATUS. -/
def ownStatus (_ : Control) (_ : Fin 4) (s : State) : Done := Done.same s { status := .ok, data := s.statusWords }

/-- STATUS (R145). -/
def execStatus (s : State) : Host.Outcome State Fault Refusal :=
  .next (live (execution (some .status) (inSession noClaim ownStatus)) s)

/-- R146: RESTART. -/
def ownRestart (c : Control) (_ : Fin 4) (s : State) : Done :=
  match decodeRestart c.arg with
  | none => Done.same s { status := .badParam }
  | some kind =>
    { state := { s with engine := { s.engine with restartPending := true } }
      reply := { status := .ok, arg := c.arg }
      mark := some kind }

/-- RESTART (R146). -/
def execRestart (s : State) : Host.Outcome State Fault Refusal :=
  .next (live (execution (some .restart) (inSession needsClaim ownRestart)) s)

end Sys2Proof.Machine
end

