-- ==== Sys2Proof/Machine/Slot.lean ====
section
/-! DEFINITION. The slot: the slot event with selection, purge, wrap and swap (R75 to R81, R105, R106, R108, R29), and the slot completion
(R84, R107) at which a restart takes effect (R147). -/

namespace Sys2Proof.Machine

/-! ### Purge and selection (R77 to R80) -/

/-- R79: whether a head cell is purged: its owner is RETIRING with purge yes. -/
def State.purges (s : State) (c : QueuedCell) : Bool :=
  match c.owner with
  | some i => decide ((s.streams.get i).state = .retiring) && (s.streams.get i).purge
  | none => false

/-- R23, R79: the head cell `c` of Q`q` is purged, and `rest` is left. -/
def State.purgeOne (s : State) (q : Fin 8) (c : QueuedCell) (rest : List QueuedCell) : State :=
  let s := (s.setQueue q { s.queue q with cells := rest }).returnBuffer
  ((s.countDevice .retiringDiscards).countOther c.header.kind c.owner).ownerDeparts c.owner

/-- R79: purges at the head of Q`q`, whose cells are the list, until the head is not to be purged or the queue is empty. -/
def purgeFrom (q : Fin 8) : List QueuedCell → State → State
  | [], s => s
  | c :: rest, s => if s.purges c then purgeFrom q rest (s.purgeOne q c rest) else s

/-- R79: Q`q` is consulted: its head is purged as long as it is to be. -/
def State.consult (s : State) (q : Fin 8) : State := purgeFrom q (s.queue q).cells s

/-- R80: the head cell of Q`q` leaves the queue for the slot; the result is the choice and the state. -/
def State.takeHead (s : State) (q : Fin 8) : Option TxCell × State :=
  match (s.queue q).cells with
  | [] => (none, s)
  | c :: rest => (some (.pool c q), (s.setQueue q { s.queue q with cells := rest }).ownerDeparts c.owner)

/-- R81: the head of the control egress queue leaves it for the slot. -/
def State.takeControl (s : State) : Option TxCell × State :=
  match s.engine.egress with
  | [] => (none, s)
  | c :: rest => (some (.control c), { s with engine := { s.engine with egress := rest } })

/-- R78: the queues fill considers, in ascending index. -/
def fillOrder : List (Fin 8) := [0, 1, 2, 3, 4, 5, 6, 7]

/-- R78: fill over a list of queues. -/
def fillFrom : List (Fin 8) → State → Option TxCell × State
  | [], s => (none, s)
  | q :: qs, s =>
    if (s.queue q).fill then
      match (s.consult q).takeHead q with
      | (some c, t) => (some c, t)
      | (none, t) => fillFrom qs t
    else fillFrom qs s

/-- R77: what the slot of a calendar entry carries; no choice is an IDLE cell. -/
def State.choose (s : State) (e : CalEntry) : Option TxCell × State :=
  match e.kind with
  | .fixed => (s.consult e.queue).takeHead e.queue
  | .preferred =>
    match s.takeControl with
    | (some c, t) => (some c, t)
    | (none, t) =>
      match (t.consult e.queue).takeHead e.queue with
      | (some c, u) => (some c, u)
      | (none, u) => fillFrom fillOrder u
  | .open_ =>
    match s.takeControl with
    | (some c, t) => (some c, t)
    | (none, t) => fillFrom fillOrder t

/-! ### The slot event -/

/-- R106: the cell as the transmitter sends it. -/
def TxCell.sent : TxCell → RawCell
  | .pool c _ => Header.rawCell { c.header with hop := c.header.hop - 1 } c.payload
  | .control c => Header.rawCell c.cell.header c.cell.payload
  | .idle => .idle

/-- R29: the slot source event of a slot event, and the divider's advance. -/
def State.slotSource (s : State) : State :=
  let s := s.handSource (.slot s.bank.slotDivider) fun m =>
    match m.source with
    | .slots _ => true
    | .mark _ => false
    | .cascade _ => false
  { s with bank := { s.bank with slotDivider := s.bank.slotDivider + 1 } }

/-- R108: the tick divider rises; bringing it back to 0 makes a tick, handed to the Session Table and to the Event Unit. -/
def State.countSlot (s : State) : State :=
  let s : State := { s with tx := { s.tx with tickDivider := s.tx.tickDivider + 1 } }
  if s.tx.tickDivider = 0 then
    { s with handover := { s.handover with
      sessionTicks := s.handover.sessionTicks + 1, eventTicks := s.handover.eventTicks + 1 } }
  else s

/-- R75, R76: the position advances; at a wrap with a commit pending the banks exchange roles. -/
def State.advance (s : State) : State :=
  if s.cal.position + 1 < s.cal.activeBank.length then { s with cal := { s.cal with position := s.cal.position + 1 } }
  else if s.cal.commitPending then
    ({ s with cal := { s.cal.swap with position := 0 } } : State).hand .calendarSwapped
  else { s with cal := { s.cal with position := 0 } }

/-- R105, R106: the chosen cell is the cell in transmission, and the transmitter begins to send it. -/
def State.transmit (s : State) (c : TxCell) : State :=
  { s with
    cal := { s.cal with inTx := some c }
    tx := { s.tx with bytePosition := 0, outgoing := some c.sent } }

/-- R75: the slot event, which comes after the completion of the slot before it. -/
def State.slotEvent (s : State) : State :=
  match s.cal.inTx with
  | some _ => s
  | none =>
    let s := s.slotSource.countSlot
    let e := s.cal.activeBank.entry s.cal.position
    let r := s.choose e
    r.2.advance.transmit (r.1.getD .idle)

/-- SLOT_EVENT (R75). -/
def execSlotEvent (s : State) : Host.Outcome State Fault Refusal := .next (live State.slotEvent s)

/-! ### The slot completion -/

/-- R84, R107: the cell in transmission is finished. Byte 31 has left the part; until the next slot event the byte position stands at 31 and
the outgoing cell is still the one just sent, of which R105 says nothing (DESIGN CHOICE, unsafe: log entry 20). -/
def State.finishTx (s : State) (c : TxCell) : State :=
  let s : State :=
    { s with
      cal := { s.cal with inTx := none }
      tx := { s.tx with bytePosition := 31 } }
  match c with
  | .pool _ q => ((s.countDevice .cellsSent).returnBuffer).countQueue q .sent
  | .control k =>
    let s := s.countDevice .cellsSent
    if k.producer = .report then
      { s with handover := { s.handover with
        reportsSent := s.handover.reportsSent ++ [(Control.ofPayload k.cell.payload).seq] } }
    else s
  | .idle => s.countDevice .idleSent

/-- R146, R147: the restart mark of the completed cell, if it carries one. -/
def TxCell.mark : TxCell → Option RestartKind
  | .pool _ _ => none
  | .control k => k.mark
  | .idle => none

/-- R84, R107, R147: the slot completion; a restart takes effect after the completion is counted. -/
def State.completeSlot (straps : BitVec 6) (s : State) : State :=
  match s.cal.inTx with
  | none => s
  | some c =>
    match c.mark with
    | none => s.finishTx c
    | some .traffic => (s.finishTx c).restartTraffic
    | some .all => (s.finishTx c).restartAll straps

/-- SLOT_COMPLETION (R107). -/
def execSlotCompletion (straps : BitVec 6) (s : State) : Host.Outcome State Fault Refusal :=
  .next (live (State.completeSlot straps) s)

end Sys2Proof.Machine
end

