-- ==== Sys2Proof/Machine/Streams.lean ====
section
/-! DEFINITION. The STREAM commands (R19 to R22, R24). -/

namespace Sys2Proof.Machine

/-- R19: the entry an INDEX names. -/
def streamIndex (x : BitVec 16) : Option (Fin 256) := if h : x.toNat < 256 then some ⟨x.toNat, h⟩ else none

/-- R20: the entry seven configured fields make, `none` where one is out of range or ill-coded. -/
def StreamFields.entry (f : StreamFields) : Option StreamEntry :=
  match f.action, f.queue, f.meter, f.onExceed, f.addAllowed, f.addHop with
  | some action, some queue, some meter, some onExceed, some addAllowed, some addHop =>
    some
      { label := f.label
        state := .active
        action := action
        queue := queue
        meter := meter
        onExceed := onExceed
        addAllowed := addAllowed
        addHop := addHop
        purge := false
        queued := 0 }
  | _, _, _, _, _, _ => none

/-- R20: entry `i` becomes ACTIVE with its counters zeroed. -/
def State.addStream (s : State) (i : Fin 256) (e : StreamEntry) : State :=
  let s := s.setStream i e
  { s with counters := { s.counters with streams := s.counters.streams.set i .zero } }

/-- A stream entry index in the INDEX of a reply. -/
def indexField (i : Fin 256) : BitVec 16 := BitVec.ofNat 16 i.val

/-- R20: STREAM-ADD. -/
def ownStreamAdd (c : Control) (_ : Fin 4) (s : State) : Done :=
  match (streamFields c).entry with
  | none => Done.same s { status := .badParam }
  | some e =>
    match s.lookup e.label with
    | some i => Done.same s { status := .exists_, index := indexField i }
    | none =>
      match s.streams.find? fun x => x.state = .free with
      | none => Done.same s { status := .full }
      | some i => { state := s.addStream i e, reply := { status := .ok, index := indexField i } }

/-- STREAM_ADD (R20). -/
def execStreamAdd (s : State) : Host.Outcome State Fault Refusal :=
  .next (live (execution (some .streamAdd) (inSession needsClaim ownStreamAdd)) s)

/-- R22: the entry STREAM-SET would leave, `none` where a named field is out of range or ill-coded. -/
def StreamEntry.changed (e : StreamEntry) (arg : Byte) (f : StreamFields) : Option StreamEntry :=
  match selected arg 0 e.action f.action, selected arg 1 e.queue f.queue, selected arg 2 e.meter f.meter,
      selected arg 3 e.onExceed f.onExceed, selected arg 4 e.addAllowed f.addAllowed, selected arg 5 e.addHop f.addHop with
  | some action, some queue, some meter, some onExceed, some addAllowed, some addHop =>
    some { e with
      action := action, queue := queue, meter := meter, onExceed := onExceed, addAllowed := addAllowed, addHop := addHop }
  | _, _, _, _, _, _ => none

/-- R22: STREAM-SET. -/
def ownStreamSet (c : Control) (_ : Fin 4) (s : State) : Done :=
  match streamIndex c.index with
  | none => Done.same s { status := .badParam }
  | some i =>
    let e := s.streams.get i
    match e.state with
    | .free => Done.same s { status := .notFound }
    | .retiring => Done.same s { status := .busy }
    | .active =>
      match e.changed c.arg (streamFields c) with
      | none => Done.same s { status := .badParam }
      | some x =>
        if x.queue ≠ e.queue ∧ 0 < e.queued then Done.same s { status := .busy }
        else { state := s.setStream i x, reply := { status := .ok } }

/-- STREAM_SET (R22). -/
def execStreamSet (s : State) : Host.Outcome State Fault Refusal :=
  .next (live (execution (some .streamSet) (inSession needsClaim ownStreamSet)) s)

/-- R21: STREAM-REMOVE; purge stands in ARG bit 0. -/
def ownStreamRemove (c : Control) (_ : Fin 4) (s : State) : Done :=
  match streamIndex c.index with
  | none => Done.same s { status := .badParam }
  | some i =>
    let e := s.streams.get i
    match e.state with
    | .free => Done.same s { status := .notFound }
    | .retiring => Done.same s { status := .busy }
    | .active =>
      if e.queued = 0 then
        { state := (s.setStream i .cleared).hand .streamRetired, reply := { status := .ok, arg := detailFreed } }
      else
        { state := s.setStream i { e with state := .retiring, purge := c.arg.getLsbD 0 }
          reply := { status := .ok, arg := detailRetiring } }

/-- STREAM_REMOVE (R21). -/
def execStreamRemove (s : State) : Host.Outcome State Fault Refusal :=
  .next (live (execution (some .streamRemove) (inSession needsClaim ownStreamRemove)) s)

/-- R24: STREAM-READ. -/
def ownStreamRead (c : Control) (_ : Fin 4) (s : State) : Done :=
  match streamIndex c.index with
  | none => Done.same s { status := .badParam }
  | some i => Done.same s { status := .ok, data := streamRecord (s.streams.get i) }

/-- STREAM_READ (R24). -/
def execStreamRead (s : State) : Host.Outcome State Fault Refusal :=
  .next (live (execution (some .streamRead) (inSession noClaim ownStreamRead)) s)

/-- R24: STREAM-FIND; word 0 carries label and state (section 10.4). -/
def ownStreamFind (c : Control) (_ : Fin 4) (s : State) : Done :=
  if 4095 < c.index.toNat then Done.same s { status := .badParam }
  else
    let label := c.index.setWidth 12
    match s.lookup label with
    | none => Done.same s { status := .notFound }
    | some i =>
      Done.same s
        { status := .ok
          index := indexField i
          data := dataWords (0#4 ++ label ++ entryStateCode (s.streams.get i).state ++ 0#8) 0 0 0 }

/-- STREAM_FIND (R24). -/
def execStreamFind (s : State) : Host.Outcome State Fault Refusal :=
  .next (live (execution (some .streamFind) (inSession noClaim ownStreamFind)) s)

end Sys2Proof.Machine
end

