-- ==== Sys2Proof/Machine/Snapshots.lean ====
section
/-! DEFINITION. The SNAP commands (R154 to R158). -/

namespace Sys2Proof.Machine

/-- R156: the STREAMS record of entry `i`; zeros where the entry is FREE. -/
def State.streamSnap (s : State) (i : Fin 256) : SnapRecord :=
  let e := s.streams.get i
  let c := if e.state = .free then StreamCounters.zero else s.counters.streams.get i
  { object := i.val
    entryState := some e.state
    word0 := c.arrived
    word1 := c.marked
    word2 := c.discardedPolice
    word3 := c.discardedOther }

/-- R156: the QUEUES record of Q`q`. -/
def State.queueSnap (s : State) (q : Fin 8) : SnapRecord :=
  let c := s.counters.queues.get q
  { object := q.val
    entryState := none
    word0 := c.enqueued
    word1 := c.sent
    word2 := c.discardedFull
    word3 := c.discardedDe }

/-- R156: the DEVICE record of group `k`: device counters 4k to 4k + 3. -/
def State.deviceSnap (s : State) (k : Fin 4) : SnapRecord :=
  let d (j : Fin 4) : Word := s.counters.device.get ⟨4 * k.val + j.val, by omega⟩
  { object := k.val, entryState := none, word0 := d 0, word1 := d 1, word2 := d 2, word3 := d 3 }

/-- The stream entries from `at_`, `n` of them. -/
def entriesFrom (at_ n : Nat) : List (Fin 256) :=
  (List.range n).filterMap fun k => if h : at_ + k < 256 then some ⟨at_ + k, h⟩ else none

/-- R156: the records of a snapshot. -/
def State.snapRecords (s : State) (source : SnapSource) (at_ n : Nat) : List SnapRecord :=
  match source with
  | .streams => (entriesFrom at_ n).map s.streamSnap
  | .queues => [0, 1, 2, 3, 4, 5, 6, 7].map s.queueSnap
  | .device => [0, 1, 2, 3].map s.deviceSnap

/-- R155: every counter just copied is set to 0. -/
def CounterBank.cleared (x : CounterBank) (source : SnapSource) (at_ n : Nat) : CounterBank :=
  match source with
  | .streams => { x with streams := x.streams.mapIdx fun k c => if at_ ≤ k ∧ k < at_ + n then .zero else c }
  | .queues => { x with queues := Table.fill 8 .zero }
  | .device => { x with device := Table.fill 16 0 }

/-- R154, check 2: for STREAMS, INDEX and COUNT name up to 32 entries. -/
def snapRange (source : SnapSource) (c : Control) : Bool :=
  match source with
  | .streams =>
    decide (c.index.toNat ≤ 255) && inRange 1 32 c.count.toNat && decide (c.index.toNat + c.count.toNat ≤ 256)
  | .queues => true
  | .device => true

/-- R154, R158: BUSY with the owner's manager node address in DATA word 0. -/
def State.busyOwner (s : State) (owner : Fin 4) : Reply :=
  Reply.word0 .busy ((nodeField (s.managerOf owner)).setWidth 32)

/-- R154: the owner of the snapshot buffer, where it is another session than `i`. -/
def State.otherOwner (s : State) (i : Fin 4) : Option (Fin 4) :=
  match s.counters.snapshot.owner with
  | some j => if j = i then none else some j
  | none => none

/-- R155: the state after the copy. -/
def State.takeSnapshot (s : State) (i : Fin 4) (source : SnapSource) (clear : Bool) (at_ n : Nat) : State :=
  let counters := if clear then s.counters.cleared source at_ n else s.counters
  { s with counters := { counters with
    snapshot := { records := s.snapRecords source at_ n, source := some source, owner := some i } } }

/-- R155, section 10.4: the reply to a SNAP-TAKE. -/
def snapReply (source : SnapSource) (clear : Bool) (index : BitVec 16) (records : List SnapRecord) : Reply :=
  match records with
  | [] => { status := .ok }
  | r :: rs =>
    { status := .ok
      arg := snapSourceCode source ||| (recordStateCode r <<< 2) ||| (if clear then 0x10#8 else 0#8)
      count := BitVec.ofNat 8 (r :: rs).length
      index := if source = .streams then index else 0
      data := recordWords r }

/-- R154, R155: SNAP-TAKE. -/
def ownSnapTake (c : Control) (i : Fin 4) (s : State) : Done :=
  match decodeSnapSource c.arg with
  | none => Done.same s { status := .badParam }
  | some source =>
    if !snapArgWellCoded c.arg || !snapRange source c then Done.same s { status := .badParam }
    else
      match s.otherOwner i with
      | some j => Done.same s (s.busyOwner j)
      | none =>
        { state := s.takeSnapshot i source (snapClear c.arg) c.index.toNat c.count.toNat
          reply := snapReply source (snapClear c.arg) c.index (s.snapRecords source c.index.toNat c.count.toNat) }

/-- R139: SNAP-TAKE needs the claim with the clear option alone. -/
def snapNeedsClaim (c : Control) : Bool := snapClear c.arg

/-- SNAP_TAKE (R155). -/
def execSnapTake (s : State) : Host.Outcome State Fault Refusal :=
  .next (live (execution (some .snapTake) (inSession snapNeedsClaim ownSnapTake)) s)

/-- R157, section 10.4: the reply to a SNAP-READ of record `r`. -/
def Snapshot.readReply (x : Snapshot) (r : SnapRecord) : Reply where
  status := .ok
  arg := (match x.source with | some y => snapSourceCode y | none => 0#8) ||| (recordStateCode r <<< 4)
  index := BitVec.ofNat 16 r.object
  count := BitVec.ofNat 8 x.records.length
  data := recordWords r

/-- R157: SNAP-READ. -/
def ownSnapRead (c : Control) (i : Fin 4) (s : State) : Done :=
  let x := s.counters.snapshot
  if x.owner ≠ some i ∨ x.records = [] then Done.same s { status := .noSnapshot }
  else
    match x.records[c.index.toNat]? with
    | none => Done.same s { status := .badParam }
    | some r => Done.same s (x.readReply r)

/-- SNAP_READ (R157). -/
def execSnapRead (s : State) : Host.Outcome State Fault Refusal :=
  .next (live (execution (some .snapRead) (inSession noClaim ownSnapRead)) s)

/-- R158: SNAP-RELEASE. -/
def ownSnapRelease (_ : Control) (i : Fin 4) (s : State) : Done :=
  match s.counters.snapshot.owner with
  | none => Done.same s { status := .ok, arg := detailNoneHeld }
  | some j =>
    if j = i then { state := s.emptySnapshot, reply := { status := .ok, arg := detailReleased } }
    else Done.same s (s.busyOwner j)

/-- SNAP_RELEASE (R158). -/
def execSnapRelease (s : State) : Host.Outcome State Fault Refusal :=
  .next (live (execution (some .snapRelease) (inSession noClaim ownSnapRelease)) s)

end Sys2Proof.Machine
end

