-- ==== Sys2Proof/Machine/Timers.lean ====
section
/-! DEFINITION. The ticks: the idle timers and the expiry of sessions (R132 to R134), and the report timer and the timeout (R169). -/

namespace Sys2Proof.Machine

/-- R132: a session's idle timer after a tick. -/
def Session.ticked (x : Session) : Session := { x with idleTimer := min (x.idleTimer + 1) Config.idleTimerMax }

/-- R133: whether a session expires at a tick, after that tick's rise. -/
def expires (timeout : Nat) (x : Option Session) : Bool :=
  match x with
  | some y => decide (timeout ≤ y.idleTimer)
  | none => false

/-- R132: every OPEN session's idle timer rises. -/
def State.raiseIdle (s : State) : State :=
  { s with sess := { s.sess with entries := s.sess.entries.map fun x => x.map Session.ticked } }

/-- R133: the sessions that the tick expires are torn down, and SESSION_ENDED is handed over once. -/
def State.expireSessions (s : State) : State :=
  match s.sess.entries.indices (expires s.settings.sessionTimeout) with
  | [] => s
  | i :: is => ((i :: is).foldl State.teardown s).hand .sessionEnded

/-- R132, R133: a tick taken by the Session Table. -/
def State.sessionTick (s : State) : State :=
  ({ s with handover := { s.handover with sessionTicks := s.handover.sessionTicks - 1 } } : State).raiseIdle.expireSessions

/-- R108: a tick handed to the Session Table is taken there; where none was handed over, none is taken. -/
def State.takeSessionTick (s : State) : State := if s.handover.sessionTicks = 0 then s else s.sessionTick

/-- SESSION_TICK (R132, and R133 for a timer that reaches the timeout at this tick). -/
def execSessionTick (s : State) : Host.Outcome State Fault Refusal := .next (live State.takeSessionTick s)

/-- R133: the tick handed to the Session Table is taken there, where at least one session expires at it (DESIGN CHOICE, safe: log entry 3). -/
def State.takeSessionExpiry (s : State) : State :=
  if s.handover.sessionTicks = 0 then s
  else
    match s.raiseIdle.sess.entries.indices (expires s.settings.sessionTimeout) with
    | [] => s
    | _ :: _ => s.sessionTick

/-- SESSION_EXPIRY (R133). -/
def execSessionExpiry (s : State) : Host.Outcome State Fault Refusal := .next (live State.takeSessionExpiry s)

/-- R166, R169: the cell of a resend: the present report with the retransmit flag set and its CHECK computed again. -/
def resendOf (c : Option ControlCell) : Option ControlCell :=
  c.map fun x => { x with payload := retransmitted x.payload }

/-- R169: the report has timed out: it is sent again, or the state becomes DOWN and the report store stays empty
(DEDUCED, safe: log entry 18). -/
def EventUnit.timedOut (u : EventUnit) : EventUnit :=
  if 0 < u.retriesLeft then
    { u with retriesLeft := u.retriesLeft - 1, timer := none, store := resendOf u.present }
  else { u with timer := none, reportState := .down, store := none }

/-- R169: whether a tick brings a running timer to the timeout. -/
def EventUnit.timesOut (u : EventUnit) (timeout : Nat) : Bool :=
  match u.timer with
  | some t => decide (timeout ≤ t + 1)
  | none => false

/-- R169: a tick taken by the Event Unit. -/
def EventUnit.tick (u : EventUnit) (timeout : Nat) : EventUnit :=
  match u.timer with
  | none => u
  | some t => if timeout ≤ t + 1 then u.timedOut else { u with timer := some (t + 1) }

/-- R169: a tick handed to the Event Unit is taken there. -/
def State.eventTick (s : State) : State :=
  { s with
    events := s.events.tick s.settings.reportTimeout
    handover := { s.handover with eventTicks := s.handover.eventTicks - 1 } }

/-- R108: where no tick was handed over, none is taken. -/
def State.takeEventTick (s : State) : State := if s.handover.eventTicks = 0 then s else s.eventTick

/-- EVENT_UNIT_TICK (R169). -/
def execEventUnitTick (s : State) : Host.Outcome State Fault Refusal := .next (live State.takeEventTick s)

/-- R169: the tick handed to the Event Unit is taken there, where it brings the report timer to the timeout (DESIGN CHOICE, safe: log entry 3). -/
def State.takeTimeout (s : State) : State :=
  if s.handover.eventTicks = 0 then s
  else if s.events.timesOut s.settings.reportTimeout then s.eventTick else s

/-- REPORT_TIMEOUT (R169). -/
def execReportTimeout (s : State) : Host.Outcome State Fault Refusal := .next (live State.takeTimeout s)

end Sys2Proof.Machine
end

