-- ==== Sys2Proof/Machine/Dispatch.lean ====
section
/-! DEFINITION. One arm for each command: the direct call of its meaning. -/

namespace Sys2Proof.Machine

def exec (i : Instr) (s : State) : Host.Outcome State Fault Refusal :=
  match i with
  | .powerOn => Sys2Proof.Machine.execPowerOn s
  | .resetPinRelease straps => Sys2Proof.Machine.execResetPinRelease straps s
  | .huntWindowTest byte => Sys2Proof.Machine.execHuntWindowTest byte s
  | .headerTest header => Sys2Proof.Machine.execHeaderTest header s
  | .ringCellArrival payload => Sys2Proof.Machine.execRingCellArrival payload s
  | .slotSourceEvent at_ => Sys2Proof.Machine.execSlotSourceEvent at_ s
  | .markSourceEvent label at_ => Sys2Proof.Machine.execMarkSourceEvent label at_ s
  | .cascadeSourceEvent origin at_ => Sys2Proof.Machine.execCascadeSourceEvent origin at_ s
  | .meterExpiry meter => Sys2Proof.Machine.execMeterExpiry meter s
  | .addWordFirst word => Sys2Proof.Machine.execAddWordFirst word s
  | .addWordContinue word => Sys2Proof.Machine.execAddWordContinue word s
  | .localCellArrival => Sys2Proof.Machine.execLocalCellArrival s
  | .dropTake => Sys2Proof.Machine.execDropTake s
  | .slotEvent => Sys2Proof.Machine.execSlotEvent s
  | .sessionTick => Sys2Proof.Machine.execSessionTick s
  | .sessionExpiry => Sys2Proof.Machine.execSessionExpiry s
  | .eventUnitTick => Sys2Proof.Machine.execEventUnitTick s
  | .reportTimeout => Sys2Proof.Machine.execReportTimeout s
  | .slotCompletion straps => Sys2Proof.Machine.execSlotCompletion straps s
  | .reportSendingComplete => Sys2Proof.Machine.execReportSendingComplete s
  | .eventFlagSet flag => Sys2Proof.Machine.execEventFlagSet flag s
  | .reportBuild => Sys2Proof.Machine.execReportBuild s
  | .reportIssue => Sys2Proof.Machine.execReportIssue s
  | .badOp => Sys2Proof.Machine.execBadOp s
  | .discover => Sys2Proof.Machine.execDiscover s
  | .openSession => Sys2Proof.Machine.execOpenSession s
  | .closeSession => Sys2Proof.Machine.execCloseSession s
  | .ping => Sys2Proof.Machine.execPing s
  | .claim => Sys2Proof.Machine.execClaim s
  | .release => Sys2Proof.Machine.execRelease s
  | .set => Sys2Proof.Machine.execSet s
  | .get => Sys2Proof.Machine.execGet s
  | .status => Sys2Proof.Machine.execStatus s
  | .restart => Sys2Proof.Machine.execRestart s
  | .streamAdd => Sys2Proof.Machine.execStreamAdd s
  | .streamSet => Sys2Proof.Machine.execStreamSet s
  | .streamRemove => Sys2Proof.Machine.execStreamRemove s
  | .streamRead => Sys2Proof.Machine.execStreamRead s
  | .streamFind => Sys2Proof.Machine.execStreamFind s
  | .meterSet => Sys2Proof.Machine.execMeterSet s
  | .meterRead => Sys2Proof.Machine.execMeterRead s
  | .meterHold => Sys2Proof.Machine.execMeterHold s
  | .meterRun => Sys2Proof.Machine.execMeterRun s
  | .meterReload => Sys2Proof.Machine.execMeterReload s
  | .queueSet => Sys2Proof.Machine.execQueueSet s
  | .queueRead => Sys2Proof.Machine.execQueueRead s
  | .calWrite => Sys2Proof.Machine.execCalWrite s
  | .calLength => Sys2Proof.Machine.execCalLength s
  | .calCopy => Sys2Proof.Machine.execCalCopy s
  | .calRead => Sys2Proof.Machine.execCalRead s
  | .calCommit => Sys2Proof.Machine.execCalCommit s
  | .calCancel => Sys2Proof.Machine.execCalCancel s
  | .snapTake => Sys2Proof.Machine.execSnapTake s
  | .snapRead => Sys2Proof.Machine.execSnapRead s
  | .snapRelease => Sys2Proof.Machine.execSnapRelease s
  | .eventRead => Sys2Proof.Machine.execEventRead s
  | .eventClear => Sys2Proof.Machine.execEventClear s
  | .reportAck => Sys2Proof.Machine.execReportAck s
  | .reportRearm => Sys2Proof.Machine.execReportRearm s

end Sys2Proof.Machine
end

