-- ==== Sys2Proof/Safety.lean ====
section
/-! DEFINITION. The laws L1 to L12 of the manual as predicates of a state, the ranges of the blocks' records, and the words the
statements about executions use. -/

namespace Sys2Proof.Machine

/-! ### Buffer Pool and Queues -/

/-- R51: 1 if a pool cell is in transmission, otherwise 0. -/
def State.poolInTx (s : State) : Nat :=
  match s.cal.inTx with
  | some (.pool _ _) => 1
  | some (.control _) => 0
  | some .idle => 0
  | none => 0

/-- The sum of the depths of Q0..Q7. -/
def State.depths (s : State) : Nat := (s.pool.queues.cells.map EgressQueue.depth).sum

/-- Law L1 (R51): each of the 512 buffers is in exactly one of its four places. -/
def State.LawL1 (s : State) : Prop :=
  s.pool.free + s.depths + s.pool.drop.length + s.poolInTx = Config.poolBuffers

/-- R55: a queue's DE threshold does not exceed its limit, its limit is at most 512, and its depth does not exceed its limit. -/
def EgressQueue.Bounded (q : EgressQueue) : Prop :=
  q.depth ≤ q.limit ∧ q.deThreshold ≤ q.limit ∧ q.limit ≤ 512

/-- Law L2 (R55): no depth exceeds its limit. -/
def State.LawL2 (s : State) : Prop :=
  (∀ q, (s.queue q).Bounded) ∧ s.pool.drop.length ≤ s.settings.dropLimit ∧ s.settings.dropLimit ≤ 512

/-! ### Stream Table -/

/-- Law L3 (R2): no two entries that are not FREE carry the same label. -/
def State.LawL3 (s : State) : Prop :=
  ∀ i j, (s.streams.get i).state ≠ .free → (s.streams.get j).state ≠ .free →
    (s.streams.get i).label = (s.streams.get j).label → i = j

/-- R3: the number of cells of a list whose owner is entry `i`. -/
def ownedIn (i : Fin 256) (cs : List QueuedCell) : Nat := cs.countP fun c => c.owner = some i

/-- R16: the number of cells in Q0..Q7 whose owner is entry `i`. -/
def State.owned (s : State) (i : Fin 256) : Nat := (s.pool.queues.cells.map fun q => ownedIn i q.cells).sum

/-- Law L4 (R16, R18), with R1: each queued count is the number of the entry's cells in Q0..Q7, a RETIRING entry has such a cell, and a
FREE entry holds the cleared values. -/
def State.LawL4 (s : State) : Prop :=
  ∀ i, (s.streams.get i).queued = s.owned i
    ∧ ((s.streams.get i).state = .retiring → 0 < (s.streams.get i).queued)
    ∧ ((s.streams.get i).state = .free → s.streams.get i = .cleared)

/-- Law L11 (R22, R56), as a law of the state: every queued cell of a stream stands in the queue its entry names. -/
def State.LawL11 (s : State) : Prop :=
  ∀ q c i, c ∈ (s.queue q).cells → c.owner = some i → (s.streams.get i).queue = q

/-- R56, R106: a cell in Q0..Q7 is a DATA or MARK cell with a hop of 1..15. -/
def State.QueuedCellsForwardable (s : State) : Prop :=
  ∀ q c, c ∈ (s.queue q).cells → (c.header.kind = .data ∨ c.header.kind = .mark) ∧ c.header.hop ≠ 0

/-! ### Meter Bank -/

/-- Law L5 (R27): credit and period counter stay within their bounds. -/
def State.LawL5 (s : State) : Prop :=
  ∀ m, (s.meter m).credit ≤ (s.meter m).limit ∧ 1 ≤ (s.meter m).counter ∧ (s.meter m).counter ≤ (s.meter m).period

/-- R38: the number of meters that name meter `m` as partner. -/
def State.namers (s : State) (m : Fin 128) : Nat := s.bank.meters.cells.countP fun x => x.partner = some m

/-- Law L6 (R38): every CASCADE source has a lower index than the meter it feeds, no meter has a partner that has a partner, and each
named count is the number of meters that name the meter. -/
def State.LawL6 (s : State) : Prop :=
  (∀ m n, (s.meter m).source = .cascade n → n < m)
    ∧ (∀ m p, (s.meter m).partner = some p → (s.meter p).partner = none)
    ∧ (∀ m, (s.meter m).named = s.namers m)

/-! ### Event Unit -/

/-- The SEQ a control cell carries. -/
def ControlCell.seq (c : ControlCell) : Byte := (Control.ofPayload c.payload).seq

/-- Law L7 (R163), with R164, R167 and R168: the present report, and a copy of it in the store, carry the current number; a report waits
in the store, or its timer runs, in OUTSTANDING alone; in IDLE nothing is carried. -/
def State.LawL7 (s : State) : Prop :=
  (∀ c, s.events.store = some c → s.events.reportState = .outstanding ∧ c.seq = s.events.number)
    ∧ (s.events.reportState = .outstanding → ∃ c, s.events.present = some c ∧ c.seq = s.events.number)
    ∧ (s.events.timer ≠ none → s.events.reportState = .outstanding)
    ∧ (s.events.reportState = .idle → s.events.carried = 0 ∧ s.events.renewed = 0 ∧ s.events.present = none)

/-- R170: a renewed mark stands for a carried flag. -/
def State.RenewedCarried (s : State) : Prop := s.events.renewed &&& ~~~s.events.carried = 0

/-! ### Session Table -/

/-- Law L8 (R129): no two sessions have the same manager node, and the claim is held by an OPEN session. -/
def State.LawL8 (s : State) : Prop :=
  (∀ i j n, s.managerOf i = some n → s.managerOf j = some n → i = j)
    ∧ (∀ i, s.sess.claim = some i → (s.sess.entries.get i).isSome = true)

/-! ### Egress Calendar -/

/-- R72, R74: a bank's length is 1..256. -/
def Bank.LengthOk (b : Bank) : Prop := 1 ≤ b.length ∧ b.length ≤ 256

/-- Law L9 (R74), with R72 and R85: the active bank holds a PREFERRED or OPEN entry within its length, and so does a shadow bank whose
commit is pending; the position lies within the active length. -/
def State.LawL9 (s : State) : Prop :=
  s.cal.bankA.LengthOk ∧ s.cal.bankB.LengthOk
    ∧ s.cal.activeBank.servesControl = true
    ∧ (s.cal.commitPending = true → s.cal.shadowBank.servesControl = true)
    ∧ s.cal.position < s.cal.activeBank.length

/-! ### Snapshot buffer -/

/-- Law L12 (R153): the buffer has an owner exactly when it holds records, and that owner is an OPEN session; at most 32 records. -/
def State.LawL12 (s : State) : Prop :=
  (s.counters.snapshot.owner.isSome = true ↔ s.counters.snapshot.records ≠ [])
    ∧ (∀ i, s.counters.snapshot.owner = some i → (s.sess.entries.get i).isSome = true)
    ∧ s.counters.snapshot.records.length ≤ 32

/-! ### Control Engine, Local Port, Ring Receiver -/

/-- R146, R147: the number of cells that carry a restart mark, in the control egress queue and in transmission. -/
def State.marks (s : State) : Nat :=
  (s.engine.egress.countP fun c => c.mark.isSome)
    + (match s.cal.inTx with
       | some c => if c.mark.isSome then 1 else 0
       | none => 0)

/-- R125, R127, R146, R147: intake holds at most 4 cells and the control egress queue at most 8, and a restart is pending exactly while
one cell carries a restart mark. -/
def State.EngineOk (s : State) : Prop :=
  s.engine.intake.length ≤ Config.intakePlaces
    ∧ s.engine.egress.length ≤ Config.controlEgressPlaces
    ∧ s.marks = if s.engine.restartPending then 1 else 0

/-- R112: an open cell has received 1..7 words. -/
def OpenCell.Ok : OpenCell → Prop
  | .none => True
  | .placed ws => 1 ≤ ws.length ∧ ws.length ≤ 7
  | .broken n => 1 ≤ n ∧ n ≤ 7

/-- R112, R118: at most four staging slots are in use, the open cell has received 1..7 words, and the delivery position is 0..7, and 0
while the drop queue is empty. -/
def State.PortOk (s : State) : Prop :=
  s.port.slotsInUse ≤ Config.stagingSlots ∧ s.port.openCell.Ok
    ∧ s.port.deliveryPosition ≤ 7 ∧ (s.pool.drop = [] → s.port.deliveryPosition = 0)

/-- R95, R97 to R99: in HUNT the runs are 0 and there is no boundary; elsewhere there is one; the runs keep below the values that end
PRESYNC and SYNC; and a cell is in reception in SYNC alone. -/
def State.ReceiverOk (s : State) : Prop :=
  (s.rx.state = .hunt → s.rx.goodRun = 0 ∧ s.rx.badRun = 0 ∧ s.rx.boundary = none)
    ∧ (s.rx.state = .presync → s.rx.goodRun < Config.goodRunForSync ∧ s.rx.boundary.isSome = true)
    ∧ (s.rx.state = .sync →
        s.rx.goodRun = Config.goodRunForSync ∧ s.rx.badRun < Config.badRunForHunt ∧ s.rx.boundary.isSome = true)
    ∧ (s.rx.arriving.isSome = true → s.rx.state = .sync)
    ∧ s.rx.window.length ≤ 4

/-- R142: every setting is in its range. -/
def Settings.InRange (x : Settings) : Prop :=
  x.dropLimit ≤ 512 ∧ (1 ≤ x.reportTimeout ∧ x.reportTimeout ≤ 255) ∧ x.reportRetries ≤ 7
    ∧ (1 ≤ x.sessionTimeout ∧ x.sessionTimeout ≤ 65535) ∧ x.controlHop ≠ 0

/-- R27: the configured fields of a meter are in their ranges. -/
def Meter.InRange (x : Meter) : Prop :=
  (1 ≤ x.limit ∧ x.limit ≤ 65535) ∧ (1 ≤ x.increment ∧ x.increment ≤ 65535) ∧ (1 ≤ x.period ∧ x.period ≤ 65535)

/-- R1, R15: every entry's add-hop is 1..15. -/
def State.StreamsInRange (s : State) : Prop := ∀ i, (s.streams.get i).addHop ≠ 0

/-- The ranges of the records of R1, R27, R129, R142 and R163. -/
def State.Ranges (s : State) : Prop :=
  s.settings.InRange ∧ (∀ m, (s.meter m).InRange) ∧ s.StreamsInRange
    ∧ (∀ i x, s.sess.entries.get i = some x → x.idleTimer ≤ Config.idleTimerMax)
    ∧ s.events.retriesLeft ≤ 7 ∧ (∀ t, s.events.timer = some t → t ≤ 255)

/-- All the laws of the manual, and the ranges, together. -/
structure State.Lawful (s : State) : Prop where
  l1       : s.LawL1
  l2       : s.LawL2
  l3       : s.LawL3
  l4       : s.LawL4
  l5       : s.LawL5
  l6       : s.LawL6
  l7       : s.LawL7
  l8       : s.LawL8
  l9       : s.LawL9
  l11      : s.LawL11
  l12      : s.LawL12
  cells    : s.QueuedCellsForwardable
  renewed  : s.RenewedCarried
  engine   : s.EngineOk
  port     : s.PortOk
  receiver : s.ReceiverOk
  ranges   : s.Ranges

/-! ### Words the statements use -/

/-- `s` with these flag occurrences handed to the Event Unit behind those already on their way (R162). -/
def State.handsOver (s : State) (fs : List EventFlag) : State :=
  { s with handover := { s.handover with flags := s.handover.flags ++ fs } }

/-- R99: `s` with the arriving cell store emptied at the cell's 32nd byte, its payload received; the last four payload bytes are the bytes
most recently received. -/
def State.handedOn (s : State) (p : Payload) : State :=
  { s with rx := { s.rx with
    arriving := none
    position := s.rx.position + 28
    window := headerBytes (p.setWidth 32) } }

/-- R126: an execution is taken: the part runs, no restart is pending, the control egress queue has a free place, and command `c` stands
at the head of intake with `rest` behind it. -/
structure State.Takes (s : State) (c : Control) (rest : List ControlCell) : Prop where
  released : s.resetHeld = false
  ready    : s.engine.restartPending = false
  room     : s.engine.egress.length < 8
  head     : ∃ k, s.engine.intake = k :: rest ∧ Control.ofPayload k.payload = c

/-- R128, steps 1 to 5: the command taken comes from a node 0..63 with the open session `x` in entry `i`, and carries its next SEQ. -/
structure State.Accepts (s : State) (c : Control) (rest : List ControlCell) (i : Fin 4) (x : Session) : Prop where
  takes   : s.Takes c rest
  sender  : c.src.toNat ≤ 63
  session : s.sessionOf (c.src.setWidth 6) = some i
  entry   : s.sess.entries.get i = some x
  next    : c.seq = x.lastSeq + 1

/-- R139: the command accepted comes from the session that holds the edit claim. -/
def State.AcceptsClaimed (s : State) (c : Control) (rest : List ControlCell) (i : Fin 4) (x : Session) : Prop :=
  s.Accepts c rest i x ∧ s.sess.claim = some i

/-- R126, R127: what every execution does: `rest` is left in intake, COMMANDS_EXECUTED is raised, and the reply `cell` joins the control
egress queue. -/
def State.answered (t : State) (rest : List ControlCell) (cell : ControlCell) (mark : Option RestartKind := none) : State :=
  { t with
    engine := { t.engine with
      intake := rest
      egress := t.engine.egress ++ [{ cell := cell, producer := .reply, mark := mark }] }
    counters := { t.counters with device := t.counters.device.set 15 (t.counters.device.get 15 + 1) } }

/-- R126, R130 to R132: what every accepted command does besides its own effect, which has made `t`: it is answered, and its session's
entry holds its SEQ, its reply and an idle timer of 0. -/
def State.executed (t : State) (c : Control) (rest : List ControlCell) (i : Fin 4) (x : Session) (cell : ControlCell)
    (mark : Option RestartKind := none) : State :=
  { t.answered rest cell mark with
    sess := { t.sess with
      entries := t.sess.entries.set i
        (some { manager := x.manager, lastSeq := c.seq, cached := cell, idleTimer := 0 }) } }

/-- The row of the opcode table that carries a command of R181. -/
def opCommand : Op → Instr
  | .discover => .discover
  | .openSession => .openSession
  | .closeSession => .closeSession
  | .ping => .ping
  | .claim => .claim
  | .release => .release
  | .set => .set
  | .get => .get
  | .status => .status
  | .restart => .restart
  | .streamAdd => .streamAdd
  | .streamSet => .streamSet
  | .streamRemove => .streamRemove
  | .streamRead => .streamRead
  | .streamFind => .streamFind
  | .meterSet => .meterSet
  | .meterRead => .meterRead
  | .meterHold => .meterHold
  | .meterRun => .meterRun
  | .meterReload => .meterReload
  | .queueSet => .queueSet
  | .queueRead => .queueRead
  | .calWrite => .calWrite
  | .calLength => .calLength
  | .calCopy => .calCopy
  | .calRead => .calRead
  | .calCommit => .calCommit
  | .calCancel => .calCancel
  | .snapTake => .snapTake
  | .snapRead => .snapRead
  | .snapRelease => .snapRelease
  | .eventRead => .eventRead
  | .eventClear => .eventClear
  | .reportAck => .reportAck
  | .reportRearm => .reportRearm

/-- The intake command rows: one for each command of R181, and BAD_OP for an OP that names none. -/
def intakeCommand : Option Op → Instr
  | none => .badOp
  | some op => opCommand op

/-- R139: the commands that need the edit claim; SNAP-TAKE needs it with the clear option, ARG bit 4. -/
def opNeedsClaim (c : Control) : Op → Bool
  | .streamAdd | .streamSet | .streamRemove | .meterSet | .meterHold | .meterRun | .meterReload | .queueSet
  | .calWrite | .calLength | .calCopy | .calCommit | .calCancel | .set | .restart => true
  | .snapTake => c.arg.getLsbD 4
  | .discover | .openSession | .closeSession | .ping | .claim | .release | .get | .status | .streamRead | .streamFind
  | .meterRead | .queueRead | .calRead | .snapRead | .snapRelease | .eventRead | .eventClear | .reportAck | .reportRearm => false

end Sys2Proof.Machine
end

