-- ==== Sys2Proof/Certificates/Slice0/Obligations.lean ====
section
/-! DEFINITION. The statements for the provers, from the numbered rules of the manual: what each command does, what the resets leave, what
the layouts hold, and the laws that every step keeps. -/

section Statements

open Sys2Proof Sys2Proof.Machine

/-! ### The machine -/

/-- A step takes the command at the front of the queue, and runs it on the state with the queue's rest. -/
def Obligations.StepRunsTheFrontCommand : Prop :=
  ∀ (c : Instr) (rest : List Instr) (s : State), s.pending = c :: rest → step s = exec c { s with pending := rest }

/-- No command stops the part or touches the queue of waiting commands; and on an empty queue a step is a rising edge of LCLK without a
strobe or a take, after which the two level pins show the state as it stands (R183; the model's choice, log entry 6). -/
def Obligations.EveryCommandAnswersNext : Prop :=
  (∀ (c : Instr) (s : State), ∃ t, exec c s = .next t ∧ t.pending = s.pending)
    ∧ ∀ s : State, s.pending = [] → step s = .next { s with port := { s.port with
        addSpacePin := !s.resetHeld && (decide (s.port.slotsInUse < 4) || s.port.openCell.isPlaced)
        dropAvailPin := !s.resetHeld && !s.pool.drop.isEmpty } }

/-- While the reset pin is held no event is taken, but for the reset pin's own (R105, R109, R121, R122, R183); and an event whose occasion is
absent leaves the part as it is (the model's choice, log entry 1). -/
def Obligations.NoOccasionNoEffect : Prop :=
  ∀ s : State,
    let unchanged (c : Instr) : Prop := exec c s = .next s
    (s.resetHeld = true → ∀ c, c ≠ .powerOn → (∀ straps, c ≠ .resetPinRelease straps) → unchanged c)
    ∧ (s.resetHeld = false → ∀ straps, unchanged (.resetPinRelease straps))
    ∧ (s.rx.boundary = none ∨ s.rx.arriving ≠ none → ∀ w, unchanged (.headerTest w))
    ∧ (s.rx.arriving = none → ∀ p, unchanged (.ringCellArrival p))
    ∧ (s.handover.sources = [] → ∀ m n, unchanged (.slotSourceEvent m) ∧ unchanged (.markSourceEvent n m)
        ∧ unchanged (.cascadeSourceEvent n m) ∧ unchanged (.meterExpiry n))
    ∧ (s.port.completed = [] → unchanged .localCellArrival)
    ∧ (s.cal.inTx ≠ none → unchanged .slotEvent)
    ∧ (s.cal.inTx = none → ∀ straps, unchanged (.slotCompletion straps))
    ∧ (s.handover.sessionTicks = 0 → unchanged .sessionTick ∧ unchanged .sessionExpiry)
    ∧ (s.handover.eventTicks = 0 → unchanged .eventUnitTick ∧ unchanged .reportTimeout)
    ∧ (∀ f, f ∉ s.handover.flags → unchanged (.eventFlagSet f))
    ∧ (s.handover.reportsSent = [] → unchanged .reportSendingComplete)

/-! ### The resets -/

/-- The power-on column of every block (R25, R48, R69, R92, R109, R121, R122, R142, R148, R160, R161, R176), held while the reset pin is
held. The node address stays as last sampled (R101). Of what had been handed over, flag occurrences stay on their way (R176); that ticks,
source events and report completions do not is the model's choice (log entry 11). -/
def Obligations.PowerOnValues : Prop :=
  ∀ s : State, ∃ t, exec .powerOn s = .next t ∧ t.resetHeld = true ∧ t.pending = s.pending
    ∧ (∀ i, t.streams.get i =
        { label := 0, state := .free, action := .discard, queue := 0, meter := none, onExceed := .discard, addAllowed := false,
          addHop := 1, purge := false, queued := 0 })
    ∧ (∀ m, t.bank.meters.get m =
        { credit := 1, limit := 1, increment := 1, period := 1, counter := 1, source := .slots .d1, partner := none,
          running := true, named := 0 })
    ∧ t.bank.slotDivider = 0
    ∧ t.pool.free = 512 ∧ t.pool.drop = []
    ∧ (∀ q, t.pool.queues.get q = { limit := 64, deThreshold := 64, fill := true, cells := [] })
    ∧ (∀ k, t.cal.bankA.entries.get k = { kind := .open_, queue := 0 }) ∧ t.cal.bankA.length = 1
    ∧ (∀ k, t.cal.bankB.entries.get k = { kind := .open_, queue := 0 }) ∧ t.cal.bankB.length = 1
    ∧ t.cal.active = .a ∧ t.cal.position = 0 ∧ t.cal.commitPending = false ∧ t.cal.inTx = none
    ∧ t.rx.state = .hunt ∧ t.rx.goodRun = 0 ∧ t.rx.badRun = 0 ∧ t.rx.boundary = none ∧ t.rx.arriving = none
    ∧ t.tx.tickDivider = 0 ∧ t.tx.outgoing = none ∧ t.ringOutput = { header := 0x0000003C#32, payload := 0 }
    ∧ t.port =
        { completed := [], openCell := .none, deliveryPosition := 0, presented := 0, dropFirst := false, addSpacePin := false,
          dropAvailPin := false }
    ∧ t.engine = { intake := [], egress := [], restartPending := false, lastReset := .powerOn }
    ∧ (∀ i, t.sess.entries.get i = none) ∧ t.sess.claim = none
    ∧ t.settings =
        { unknownPolicy := .forward, unknownQueue := 7, dropLimit := 64, reportTarget := none, reportMask := 0,
          reportTimeout := 50, reportRetries := 3, sessionTimeout := 2000, controlHop := 15 }
    ∧ (∀ i, t.counters.streams.get i = { arrived := 0, marked := 0, discardedPolice := 0, discardedOther := 0 })
    ∧ (∀ q, t.counters.queues.get q = { enqueued := 0, sent := 0, discardedFull := 0, discardedDe := 0 })
    ∧ (∀ k, t.counters.device.get k = 0)
    ∧ t.counters.snapshot = { records := [], source := none, owner := none }
    ∧ t.events =
        { flags := 0x2000#14, reportState := .idle, number := 0, carried := 0, renewed := 0, retriesLeft := 3, timer := none,
          store := none, present := none }
    ∧ t.handover = { sources := [], flags := s.handover.flags, sessionTicks := 0, eventTicks := 0, reportsSent := [] }
    ∧ t.nodeAddress = s.nodeAddress

/-- R101, R121: the release of the reset pin samples the straps and starts the part as power-on left it; and the state after reset is the
release, with straps of 0, after a power-on (the model's choice of straps, log entry 7). -/
def Obligations.ReleaseStartsThePart : Prop :=
  (∀ (s : State) (straps : BitVec 6), s.resetHeld = true →
      exec (.resetPinRelease straps) s = .next
        { s with resetHeld := false, nodeAddress := straps, port := { s.port with addSpacePin := true } })
    ∧ ∃ t, exec .powerOn State.reset = .next t ∧ exec (.resetPinRelease 0) t = .next State.reset

/-- R26, R50, R70, R71, R93, R109, R121, R122, R147, R148, R160, R161, R177: what RESTART TRAFFIC, taking effect at the slot completion of
its own reply, changes and keeps in every block. The model's choices in it: ticks, source events other than cascades and report completions
stay on their way (log entry 11); the two level pins stay as they were until the next edge of LCLK, while DROP_DATA and DROP_FIRST change at
once (log entry 14); RESTARTED is handed over (log entry 15); the byte position is 0 at once (log entry 20). -/
def Obligations.RestartTrafficEffect : Prop :=
  ∀ (s : State) (straps : BitVec 6) (k : EgressCell), s.resetHeld = false → s.cal.inTx = some (.control k) →
    k.mark = some .traffic → k.producer = .reply →
    ∃ t, exec (.slotCompletion straps) s = .next t
      ∧ (∀ i, t.streams.get i =
          if (s.streams.get i).state = .retiring then .cleared else { s.streams.get i with queued := 0 })
      ∧ (∀ m, t.bank.meters.get m =
          { s.bank.meters.get m with credit := (s.bank.meters.get m).limit, counter := (s.bank.meters.get m).period })
      ∧ t.bank.slotDivider = s.bank.slotDivider
      ∧ t.pool.free = 512 ∧ t.pool.drop = []
      ∧ (∀ q, t.pool.queues.get q = { s.pool.queues.get q with cells := [] })
      ∧ t.cal = { s.cal with
          active := if s.cal.commitPending then s.cal.active.other else s.cal.active
          position := 0, commitPending := false, inTx := none }
      ∧ t.tx = { s.tx with bytePosition := 0, outgoing := none }
      ∧ t.port = { s.port with
          completed := [], openCell := .none, deliveryPosition := 0, presented := 0, dropFirst := false }
      ∧ t.engine = { s.engine with restartPending := false, lastReset := .traffic }
      ∧ t.counters = { s.counters with device := s.counters.device.set 13 (s.counters.device.get 13 + 1) }
      ∧ t.handover.flags = s.handover.flags ++ (if s.cal.commitPending then [.calendarSwapped] else [])
          ++ (if ∃ i, (s.streams.get i).state = .retiring then [.streamRetired] else []) ++ [.restarted]
      ∧ t.handover.sources = s.handover.sources.filter keptByRestart
      ∧ t.handover.sessionTicks = s.handover.sessionTicks ∧ t.handover.eventTicks = s.handover.eventTicks
      ∧ t.handover.reportsSent = s.handover.reportsSent
      ∧ t.rx = s.rx ∧ t.sess = s.sess ∧ t.settings = s.settings ∧ t.events = s.events ∧ t.nodeAddress = s.nodeAddress
      ∧ t.resetHeld = false ∧ t.pending = s.pending

/-- R25, R49, R69, R92, R109, R121, R122, R142, R147, R148, R160, R161, R176: RESTART ALL, taking effect at the slot completion of its own
reply, leaves every block as a power-on does, but for the straps, the last reset kind, the two level pins (which follow at the next edge of LCLK)
and the events already handed over, of which cascade source events alone are discarded. The model's choices in it: the level pins
as they were, DROP_DATA and DROP_FIRST changed at once (log entry 14), the events kept on their way (log entry 11), and the byte position, 0 at once
(log entry 20). -/
def Obligations.RestartAllEffect : Prop :=
  ∀ (s : State) (straps : BitVec 6) (k : EgressCell), s.resetHeld = false → s.cal.inTx = some (.control k) →
    k.mark = some .all → k.producer = .reply →
    ∃ u, exec .powerOn s = .next u ∧ exec (.slotCompletion straps) s = .next
      { u with
        resetHeld := false
        nodeAddress := straps
        engine := { u.engine with lastReset := .all }
        port := { u.port with addSpacePin := s.port.addSpacePin, dropAvailPin := s.port.dropAvailPin }
        handover := { s.handover with
          sources := s.handover.sources.filter keptByRestart } }

/-! ### Ring Receiver -/

/-- R96: in HUNT every byte ends a window of the four bytes most recently received; a good window sets the framing, a bad or short one
does not. Outside HUNT no such window is tested. -/
def Obligations.HuntTestsEveryWindow : Prop :=
  ∀ (s : State) (b : Byte), s.resetHeld = false →
    (s.rx.state ≠ .hunt → exec (.huntWindowTest b) s = .next s)
    ∧ (s.rx.state = .hunt → s.rx.window.length < 3 →
        exec (.huntWindowTest b) s = .next { s with rx := { s.rx with
          position := s.rx.position + 1, window := s.rx.window ++ [b] } })
    ∧ ∀ (old : List Byte) (b0 b1 b2 : Byte), s.rx.state = .hunt → s.rx.window = old ++ [b0, b1, b2] →
        (goodHeader (b0 ++ b1 ++ b2 ++ b) = true →
          exec (.huntWindowTest b) s = .next { s with rx := { s.rx with
            state := .presync, goodRun := 0, boundary := some (s.rx.position + 1 + 32), position := s.rx.position + 1
            window := [b0, b1, b2, b] } })
        ∧ (goodHeader (b0 ++ b1 ++ b2 ++ b) = false →
          exec (.huntWindowTest b) s = .next { s with rx := { s.rx with
            position := s.rx.position + 1, window := [b0, b1, b2, b] } })

/-- R97, R98: the header test at a boundary, in PRESYNC and in SYNC. -/
def Obligations.HeaderTestAtTheBoundary : Prop :=
  ∀ (s : State) (w : Word) (n : Nat), s.resetHeld = false → s.rx.boundary = some n → s.rx.arriving = none →
    let bytes : List Byte := [w.extractLsb' 24 8, w.extractLsb' 16 8, w.extractLsb' 8 8, w.extractLsb' 0 8]
    (s.rx.state = .presync → goodHeader w = true → s.rx.goodRun + 1 < 6 →
        exec (.headerTest w) s = .next { s with rx := { s.rx with
          goodRun := s.rx.goodRun + 1, boundary := some (n + 32), position := n, window := bytes } })
    ∧ (s.rx.state = .presync → goodHeader w = true → s.rx.goodRun + 1 = 6 →
        exec (.headerTest w) s = .next (({ s with rx := { s.rx with
          state := .sync, goodRun := 6, badRun := 0, boundary := some (n + 32), position := n, window := bytes } } : State).handsOver
            [.syncGained]))
    ∧ (s.rx.state = .presync → goodHeader w = false →
        exec (.headerTest w) s = .next { s with rx := { s.rx with
          state := .hunt, goodRun := 0, badRun := 0, boundary := none, position := n, window := bytes } })
    ∧ (s.rx.state = .sync → goodHeader w = true →
        exec (.headerTest w) s = .next { s with rx := { s.rx with
          badRun := 0, boundary := some (n + 32), arriving := some w, position := n, window := bytes } })
    ∧ (s.rx.state = .sync → goodHeader w = false → s.rx.badRun + 1 < 7 →
        exec (.headerTest w) s = .next ((({ s with rx := { s.rx with
          badRun := s.rx.badRun + 1, boundary := some (n + 32), position := n, window := bytes } } : State).countDevice
            .headerErrors).handsOver [.headerError]))
    ∧ (s.rx.state = .sync → goodHeader w = false → s.rx.badRun + 1 = 7 →
        exec (.headerTest w) s = .next (((({ s with rx := { s.rx with
          state := .hunt, goodRun := 0, badRun := 0, boundary := none, position := n, window := bytes } } : State).countDevice
            .headerErrors).countDevice .syncLosses).handsOver [.headerError, .syncLost]))

/-- R102 to R104: the routing of a CONTROL cell, its check and its place in intake, and its hop check and place in transit. A broadcast DISCOVER
goes both ways, with every outcome of the one beside every outcome of the other; CONTROL_LOST is handed over once where both ways lose it
(R162, log entry 12). -/
def Obligations.ControlCellRouting : Prop :=
  ∀ (s : State) (w : Word) (p : Payload), s.resetHeld = false → s.rx.arriving = some w → (Header.ofWord w).kind = .control →
    let h := Header.ofWord w
    let c := Control.ofPayload p
    let r := s.handedOn p
    let here := c.broadcastFlag = false ∧ c.dest = s.nodeAddress.setWidth 8
    let away := (c.broadcastFlag = true ∧ (c.replyFlag = true ∨ c.op ≠ 0x01#8))
      ∨ (c.broadcastFlag = false ∧ c.dest ≠ s.nodeAddress.setWidth 8)
    let taken (z : State) : State := { z with engine := { z.engine with
      intake := z.engine.intake ++ [{ header := h, payload := p }] } }
    let passed (z : State) : State := { z with engine := { z.engine with
      egress := z.engine.egress
        ++ [{ cell := { header := { h with hop := h.hop - 1 }, payload := p }, producer := .transit, mark := none }] } }
    (here → c.replyFlag = true → exec (.ringCellArrival p) s = .next (r.countDevice .controlMisrouted))
    ∧ (here → c.replyFlag = false → goodPayload p = false →
        exec (.ringCellArrival p) s = .next (r.countDevice .controlCheckErrors))
    ∧ (here → c.replyFlag = false → goodPayload p = true → 4 ≤ s.engine.intake.length →
        exec (.ringCellArrival p) s = .next ((r.countDevice .controlIntakeLost).handsOver [.controlLost]))
    ∧ (here → c.replyFlag = false → goodPayload p = true → s.engine.intake.length < 4 →
        exec (.ringCellArrival p) s = .next (taken r))
    ∧ (away → h.hop = 0 → exec (.ringCellArrival p) s = .next ((r.countDevice .hopExpired).handsOver [.hopExpired]))
    ∧ (away → h.hop ≠ 0 → s.engine.egress.length < 8 → exec (.ringCellArrival p) s = .next (passed r))
    ∧ (away → h.hop ≠ 0 → 8 ≤ s.engine.egress.length →
        exec (.ringCellArrival p) s = .next ((r.countDevice .controlEgressLost).handsOver [.controlLost]))
    ∧ (c.broadcastFlag = true → c.replyFlag = false → c.op = 0x01#8 →
        let wrong := !goodPayload p
        let full := goodPayload p && decide (4 ≤ s.engine.intake.length)
        let spent := decide (h.hop = 0)
        let crowded := !spent && decide (8 ≤ s.engine.egress.length)
        let first := if wrong then r.countDevice .controlCheckErrors
          else if full then r.countDevice .controlIntakeLost else taken r
        let second := if spent then first.countDevice .hopExpired
          else if crowded then first.countDevice .controlEgressLost else passed first
        exec (.ringCellArrival p) s = .next (second.handsOver
          ((if full || crowded then [.controlLost] else []) ++ if spent then [.hopExpired] else [])))

/-! ### Stream Table, policing and admission -/

/-- R58, R59, with the order of the checks of R57 and the counters of R61: an admission request for Qq: the first check that fails refuses and
counts, and a cell that passes all three takes a buffer and joins the tail. -/
def Obligations.EgressAdmission : Prop :=
  ∀ (s : State) (q : Fin 8) (c : QueuedCell),
    let x := s.pool.queues.get q
    let other (z : State) : State := if c.header.kind = .data then (match c.owner with
      | some i => z.countStream i .discardedOther
      | none => z) else z
    (x.limit ≤ x.cells.length → s.admitEgress q c = other ((s.countQueue q .discardedFull).hand .queueFull))
    ∧ (x.cells.length < x.limit → c.header.de = true → x.deThreshold ≤ x.cells.length →
        s.admitEgress q c = other (s.countQueue q .discardedDe))
    ∧ (x.cells.length < x.limit → (c.header.de = false ∨ x.cells.length < x.deThreshold) → s.pool.free = 0 →
        s.admitEgress q c = other (((s.countQueue q .discardedFull).countDevice .poolEmptyDiscards).hand .poolEmpty))
    ∧ (x.cells.length < x.limit → (c.header.de = false ∨ x.cells.length < x.deThreshold) → 0 < s.pool.free →
        s.admitEgress q c = { s with
          pool := { s.pool with
            free := s.pool.free - 1
            queues := s.pool.queues.set q { x with cells := x.cells ++ [c] } }
          counters := { s.counters with
            queues := s.counters.queues.set q
              { s.counters.queues.get q with enqueued := (s.counters.queues.get q).enqueued + 1 } }
          streams := match c.owner with
            | some i => s.streams.set i { s.streams.get i with queued := (s.streams.get i).queued + 1 }
            | none => s.streams })

/-- R62, R63: an admission request for the drop queue, for a DATA or MARK cell of entry i. -/
def Obligations.DropAdmission : Prop :=
  ∀ (s : State) (i : Fin 256) (c : RawCell),
    let other (z : State) : State := if (Header.ofWord c.header).kind = .data then z.countStream i .discardedOther else z
    (s.settings.dropLimit ≤ s.pool.drop.length →
        s.admitDrop i c = other ((s.countDevice .dropFullDiscards).hand .dropFull))
    ∧ (s.pool.drop.length < s.settings.dropLimit → s.pool.free = 0 →
        s.admitDrop i c =
          other ((((s.countDevice .dropFullDiscards).countDevice .poolEmptyDiscards).hand .dropFull).hand .poolEmpty))
    ∧ (s.pool.drop.length < s.settings.dropLimit → 0 < s.pool.free →
        s.admitDrop i c = { s with pool := { s.pool with free := s.pool.free - 1, drop := s.pool.drop ++ [c] } })

/-- R9, R35, R36: a DATA cell to be forwarded under an entry is judged by the entry's meter and that meter's partner, whatever their run
states (R37); only a conforming cell is charged; and the cell goes to admission as it is, as a DE cell, or not at all. -/
def Obligations.PolicedAdmission : Prop :=
  ∀ (s : State) (i : Fin 256) (e : StreamEntry) (h : Header) (p : Payload),
    let cell (h : Header) : QueuedCell := { header := h, payload := p, owner := some i }
    let refused (z : State) : State := match e.onExceed with
      | .mark => (z.countStream i .marked).admitEgress e.queue (cell { h with de := true })
      | .discard => z.countStream i .discardedPolice
    let paid (z : State) (m : Fin 128) : State := { z with bank := { z.bank with
      meters := z.bank.meters.set m { z.bank.meters.get m with credit := (z.bank.meters.get m).credit - 1 } } }
    (e.meter = none → s.policeAndAdmit i e h p = s.admitEgress e.queue (cell h))
    ∧ ∀ m, e.meter = some m →
        ((s.bank.meters.get m).credit = 0 → s.policeAndAdmit i e h p = refused s)
        ∧ (1 ≤ (s.bank.meters.get m).credit → (s.bank.meters.get m).partner = none →
            s.policeAndAdmit i e h p = (paid s m).admitEgress e.queue (cell h))
        ∧ ∀ n, (s.bank.meters.get m).partner = some n →
            ((s.bank.meters.get n).credit = 0 → s.policeAndAdmit i e h p = refused s)
            ∧ (1 ≤ (s.bank.meters.get m).credit → 1 ≤ (s.bank.meters.get n).credit →
                s.policeAndAdmit i e h p = (paid (paid s m) n).admitEgress e.queue (cell h))

/-- R4 to R6, R8, R12, R13, R30, R100: the ring cells that no queue is asked for. IDLE cells and cells of an unknown kind; DATA and MARK cells
of a RETIRING entry, of an entry with action DISCARD, of an entry with action FORWARD but with hop 0, and of no entry under *unknown policy*
DISCARD. A MARK cell gives its source event in every case. -/
def Obligations.RingCellDiscarded : Prop :=
  ∀ (s : State) (w : Word) (p : Payload), s.resetHeld = false → s.rx.arriving = some w →
    let h := Header.ofWord w
    let r := if h.kind = .mark then (s.handedOn p).handSource (.mark h.label) (fun m => m.source = .mark h.label) else s.handedOn p
    let other (z : State) (i : Fin 256) : State := if h.kind = .data then z.countStream i .discardedOther else z
    let arrived (z : State) (i : Fin 256) : State := if h.kind = .data then z.countStream i .arrived else z
    (h.kind = .idle → exec (.ringCellArrival p) s = .next (s.handedOn p))
    ∧ (4 ≤ (w.extractLsb' 29 3).toNat → exec (.ringCellArrival p) s = .next ((s.handedOn p).countDevice .unknownKind))
    ∧ ((h.kind = .data ∨ h.kind = .mark) → (∀ j, (s.streams.get j).state ≠ .free → (s.streams.get j).label ≠ h.label) →
        s.settings.unknownPolicy = .discard →
        exec (.ringCellArrival p) s = .next ((r.countDevice .unknownLabel).handsOver [.unknownLabel]))
    ∧ ((h.kind = .data ∨ h.kind = .mark) → (∀ j, (s.streams.get j).state ≠ .free → (s.streams.get j).label ≠ h.label) →
        s.settings.unknownPolicy = .forward → h.hop = 0 →
        exec (.ringCellArrival p) s = .next
          (((r.countDevice .unknownLabel).countDevice .hopExpired).handsOver [.unknownLabel, .hopExpired]))
    ∧ ∀ i, (h.kind = .data ∨ h.kind = .mark) → s.LawL3 → (s.streams.get i).label = h.label →
        ((s.streams.get i).state = .retiring →
            exec (.ringCellArrival p) s = .next (other (r.countDevice .retiringDiscards) i))
        ∧ ((s.streams.get i).state = .active → (s.streams.get i).action = .discard →
            exec (.ringCellArrival p) s = .next (other (arrived r i) i))
        ∧ ((s.streams.get i).state = .active → (s.streams.get i).action = .forward → h.hop = 0 →
            exec (.ringCellArrival p) s = .next (other (((arrived r i).countDevice .hopExpired).handsOver [.hopExpired]) i))

/-- R4, R6 to R8, R10, R11, R13: the ring DATA and MARK cells that are offered to a queue, as one event: what the action of the ACTIVE entry
asks for, and what *unknown policy* FORWARD asks for. The hop check is made for a forward part alone: a DROP cell with hop 0 is offered to the
drop queue, and so is a COPY cell with hop 0, whose forward part is then HOP_EXPIRED. -/
def Obligations.RingCellOffered : Prop :=
  ∀ (s : State) (w : Word) (p : Payload), s.resetHeld = false → s.rx.arriving = some w →
    ((Header.ofWord w).kind = .data ∨ (Header.ofWord w).kind = .mark) →
    let h := Header.ofWord w
    let c : RawCell := { header := w, payload := p }
    let r (z : State) : State := if h.kind = .mark then
      (z.handedOn p).handSource (.mark h.label) (fun m => m.source = .mark h.label) else z.handedOn p
    let arrived (z : State) (i : Fin 256) : State := if h.kind = .data then (r z).countStream i .arrived else r z
    let other (z : State) (i : Fin 256) : State := if h.kind = .data then z.countStream i .discardedOther else z
    let forwarded (z : State) (i : Fin 256) : State :=
      if h.hop = 0 then other ((z.countDevice .hopExpired).hand .hopExpired) i
      else if h.kind = .data then z.policeAndAdmit i (s.streams.get i) h p
      else z.admitEgress (s.streams.get i).queue { header := h, payload := p, owner := some i }
    ((∀ j, (s.streams.get j).state ≠ .free → (s.streams.get j).label ≠ h.label) → s.settings.unknownPolicy = .forward → h.hop ≠ 0 →
        exec (.ringCellArrival p) s = .next (oneEvent (fun z =>
          (((r z).countDevice .unknownLabel).hand .unknownLabel).admitEgress z.settings.unknownQueue
            { header := h, payload := p, owner := none }) s))
    ∧ ∀ i, s.LawL3 → (s.streams.get i).label = h.label → (s.streams.get i).state = .active →
        ((s.streams.get i).action = .forward →
            exec (.ringCellArrival p) s = .next (oneEvent (fun z => forwarded (arrived z i) i) s))
        ∧ ((s.streams.get i).action = .drop →
            exec (.ringCellArrival p) s = .next (oneEvent (fun z => (arrived z i).admitDrop i c) s))
        ∧ ((s.streams.get i).action = .copy →
            exec (.ringCellArrival p) s = .next (oneEvent (fun z => forwarded ((arrived z i).admitDrop i c) i) s))

/-! ### Meter Bank -/

/-- R28, R32, R33: a source event at a meter: a HELD meter, or one whose source does not match, is left as it is; a RUNNING one counts down;
and one run down to 1 expires, is refilled up to its limit, and hands a cascade source event to its subscribers (R31). -/
def Obligations.SourceEventAtAMeter : Prop :=
  ∀ (s : State) (o : Origin) (m : Fin 128),
    let x := s.bank.meters.get m
    let counts := (∃ d v, x.source = .slots d ∧ o = .slot v ∧ v.toNat % d.toNat = 0)
      ∨ (∃ l, x.source = .mark l ∧ o = .mark l) ∨ (∃ n, x.source = .cascade n ∧ o = .cascade n)
    (x.running = false ∨ ¬ counts → s.sourceAt o m = s)
    ∧ (x.running = true → counts → 1 < x.counter →
        s.sourceAt o m = { s with bank := { s.bank with meters := s.bank.meters.set m { x with counter := x.counter - 1 } } })
    ∧ (x.running = true → counts → x.counter = 1 →
        let ms := s.bank.meters.set m { x with counter := x.period, credit := min (x.credit + x.increment) x.limit }
        let subscribers := ms.indices fun y => y.source = .cascade m
        s.sourceAt o m = { s with
          bank := { s.bank with meters := ms }
          handover := { s.handover with sources := s.handover.sources
            ++ if subscribers = [] then [] else [{ origin := .cascade m, targets := subscribers }] } })

/-- R28 to R31: the oldest source event of its origin on its way is taken at each meter it has still to reach, or at a named one of them,
whatever stands before it in the hand-over that the row does not take (the model's choice of what is taken, log entry 4). R32: METER_EXPIRY is
the oldest event that matches the source of a RUNNING meter whose period counter has run down to 1, taken there (the model's choice of what the
row takes, log entry 3). -/
def Obligations.SourceEventTaken : Prop :=
  ∀ (s : State) (o : Origin) (ts : List (Fin 128)) (before later : List SourceEvent), s.resetHeld = false → ts ≠ [] →
    s.handover.sources = before ++ { origin := o, targets := ts } :: later →
    let rest (es : List SourceEvent) : State := { s with handover := { s.handover with sources := before ++ es ++ later } }
    let everywhere := ts.foldl (fun z m => z.sourceAt o m) (rest [])
    let atOne (m : Fin 128) := (rest (if ts.erase m = [] then [] else [{ origin := o, targets := ts.erase m }])).sourceAt o m
    (∀ v, o = .slot v →
        ((∀ e ∈ before, ∀ x, e.origin ≠ .slot x) → exec (.slotSourceEvent none) s = .next everywhere)
        ∧ ∀ m ∈ ts, (∀ e ∈ before, ∀ x, e.origin = .slot x → m ∉ e.targets) →
            exec (.slotSourceEvent (some m.val)) s = .next (atOne m))
    ∧ (∀ l, o = .mark l →
        ((∀ e ∈ before, e.origin ≠ .mark l) → exec (.markSourceEvent l.toNat none) s = .next everywhere)
        ∧ ∀ m ∈ ts, (∀ e ∈ before, e.origin = .mark l → m ∉ e.targets) →
            exec (.markSourceEvent l.toNat (some m.val)) s = .next (atOne m))
    ∧ (∀ n, o = .cascade n →
        ((∀ e ∈ before, e.origin ≠ .cascade n) → exec (.cascadeSourceEvent n.val none) s = .next everywhere)
        ∧ ∀ m ∈ ts, (∀ e ∈ before, e.origin = .cascade n → m ∉ e.targets) →
            exec (.cascadeSourceEvent n.val (some m.val)) s = .next (atOne m))
    ∧ ∀ m ∈ ts, (s.bank.meters.get m).running = true → (s.bank.meters.get m).counter = 1 →
        (s.bank.meters.get m).source.matches o = true →
        (∀ e ∈ before, (s.bank.meters.get m).source.matches e.origin = true → m ∉ e.targets) →
        exec (.meterExpiry m.val) s = .next (atOne m)

/-! ### Local Port -/

/-- R111 to R115, R183: a word strobed at the add side; the pins follow at the same edge. -/
def Obligations.AddSideWords : Prop :=
  ∀ (s : State) (w : Word), s.resetHeld = false →
    let opened (x : OpenCell) : State := { s with port := { s.port with openCell := x } }
    let refused (z : State) : State := (z.countDevice .addRefused).handsOver [.addRefused]
    (s.port.openCell = .none → s.port.completed.length < 4 →
        exec (.addWordFirst w) s = .next (opened (.placed [w])).portEdge)
    ∧ (s.port.openCell = .none → 4 ≤ s.port.completed.length →
        exec (.addWordFirst w) s = .next (opened (.broken 1)).portEdge)
    ∧ (∀ ws, s.port.openCell = .placed ws → s.port.completed.length < 4 →
        exec (.addWordFirst w) s = .next (refused (opened (.placed [w]))).portEdge)
    ∧ (∀ n, s.port.openCell = .broken n → s.port.completed.length < 4 →
        exec (.addWordFirst w) s = .next (refused (opened (.placed [w]))).portEdge)
    ∧ (∀ n, s.port.openCell = .broken n → 4 ≤ s.port.completed.length →
        exec (.addWordFirst w) s = .next (refused (opened (.broken 1))).portEdge)
    ∧ (s.port.openCell = .none → exec (.addWordContinue w) s = .next (refused s).portEdge)
    ∧ (∀ ws, s.port.openCell = .placed ws → ws.length < 7 →
        exec (.addWordContinue w) s = .next (opened (.placed (ws ++ [w]))).portEdge)
    ∧ (∀ ws, s.port.openCell = .placed ws → ws.length = 7 →
        exec (.addWordContinue w) s = .next ({ s with port := { s.port with
          openCell := .none, completed := s.port.completed ++ [RawCell.ofWords (ws ++ [w])] } } : State).portEdge)
    ∧ (∀ n, s.port.openCell = .broken n → n < 7 →
        exec (.addWordContinue w) s = .next (opened (.broken (n + 1))).portEdge)
    ∧ (∀ n, s.port.openCell = .broken n → n = 7 →
        exec (.addWordContinue w) s = .next (refused (opened .none)).portEdge)

/-- R7, R14 to R16, R116: the oldest completed cell leaves staging; it is refused and counted, or accepted with the entry's add-hop, policed
and offered to the entry's queue. -/
def Obligations.LocalCellArrival : Prop :=
  ∀ (s : State) (c : RawCell) (rest : List RawCell), s.resetHeld = false → s.port.completed = c :: rest →
    let h := Header.ofWord c.header
    let left (z : State) : State := { z with port := { z.port with completed := rest } }
    let refused := ((left s).countDevice .addRefused).handsOver [.addRefused]
    (h.kind ≠ .data → exec .localCellArrival s = .next refused)
    ∧ (h.kind = .data → (∀ j, (s.streams.get j).state ≠ .free → (s.streams.get j).label ≠ h.label) →
        exec .localCellArrival s = .next refused)
    ∧ ∀ i, h.kind = .data → s.LawL3 → (s.streams.get i).label = h.label →
        ((s.streams.get i).state = .retiring → exec .localCellArrival s = .next (refused.countStream i .discardedOther))
        ∧ ((s.streams.get i).state = .active → (s.streams.get i).addAllowed = false →
            exec .localCellArrival s = .next ((refused.countStream i .arrived).countStream i .discardedOther))
        ∧ ((s.streams.get i).state = .active → (s.streams.get i).addAllowed = true →
            exec .localCellArrival s = .next (oneEvent (fun z =>
              ((left z).countStream i .arrived).policeAndAdmit i (s.streams.get i)
                { h with hop := (s.streams.get i).addHop } c.payload) s))

/-- R64, R119, R183: each take presents the next word of the drop queue's head, the eighth word lets the cell and its buffer go, and a take
of an empty queue is ignored. -/
def Obligations.DropTakePresentsWords : Prop :=
  ∀ s : State, s.resetHeld = false →
    (s.pool.drop = [] → exec .dropTake s = .next s.portEdge)
    ∧ ∀ c rest, s.pool.drop = c :: rest →
        (s.port.deliveryPosition < 7 → exec .dropTake s = .next ({ s with port := { s.port with
          presented := c.word s.port.deliveryPosition
          dropFirst := decide (s.port.deliveryPosition = 0)
          deliveryPosition := s.port.deliveryPosition + 1 } } : State).portEdge)
        ∧ (s.port.deliveryPosition = 7 → exec .dropTake s = .next ({ s with
            port := { s.port with presented := c.word 7, dropFirst := false, deliveryPosition := 0 }
            pool := { s.pool with free := s.pool.free + 1, drop := rest } } : State).portEdge)

/-! ### The slot -/

/-- R75 to R81: what a slot carries. The control egress queue comes first, but not at a FIXED entry; then the queue the entry names, once the heads
to be purged are gone; then, but not at a FIXED entry, the lowest queue with fill yes that holds a cell once its own such heads are gone; and
otherwise an IDLE cell. Every queue that the selection reaches is purged in the order in which it is reached, and no other is; what a purge does
stands in `PurgeAtTheHead`. -/
def Obligations.SlotCarries : Prop :=
  ∀ s : State, s.resetHeld = false → s.cal.inTx = none →
    let e := s.cal.activeBank.entries.get (Fin.ofNat 256 s.cal.position)
    let sends (c : TxCell) (took : State → State) : Prop :=
      exec .slotEvent s = .next (oneEvent (fun z => (took z.slotSource.countSlot).advance.transmit c) s)
    let head (q : Fin 8) (c : QueuedCell) (rest : List QueuedCell) (z : State) : State :=
      ({ z with pool := { z.pool with
          queues := z.pool.queues.set q { z.pool.queues.get q with cells := rest } } } : State).ownerDeparts c.owner
    let cells (z : State) (q : Fin 8) : List QueuedCell := (z.pool.queues.get q).cells
    let fills (q : Fin 8) : Bool := (s.pool.queues.get q).fill
    let named : List (Fin 8) := if e.kind = .preferred then [e.queue] else []
    let upTo (q : Fin 8) (z : State) : State :=
      (named ++ (List.finRange 8).filter fun p => decide (p ≤ q) && fills p).foldl State.consult z
    (∀ k rest, e.kind ≠ .fixed → s.engine.egress = k :: rest →
        sends (.control k) fun z => { z with engine := { z.engine with egress := rest } })
    ∧ (∀ c rest, (e.kind = .fixed ∨ (e.kind = .preferred ∧ s.engine.egress = [])) → cells (s.consult e.queue) e.queue = c :: rest →
        sends (.pool c e.queue) fun z => head e.queue c rest (z.consult e.queue))
    ∧ (e.kind = .fixed → cells (s.consult e.queue) e.queue = [] → sends .idle fun z => z.consult e.queue)
    ∧ (∀ q c rest, e.kind ≠ .fixed → s.engine.egress = [] → fills q = true → (∀ p ∈ named, cells (upTo q s) p = []) →
        (∀ p, p < q → fills p = true → cells (upTo q s) p = []) → cells (upTo q s) q = c :: rest →
        sends (.pool c q) fun z => head q c rest (upTo q z))
    ∧ (e.kind ≠ .fixed → s.engine.egress = [] → (∀ p ∈ named, cells (upTo 7 s) p = []) →
        (∀ p, fills p = true → cells (upTo 7 s) p = []) → sends .idle (upTo 7))

/-- R29, R72, R75, R76, R105, R106, R108: what every slot event does besides its choice, and what it leaves as it was. The cell sent is the one
chosen: a pool cell with its hop less 1, a CONTROL cell with its header as held, each with its header check computed anew and its payload
unchanged, or an IDLE cell. -/
def Obligations.SlotEventBookkeeping : Prop :=
  ∀ s : State, s.resetHeld = false → s.cal.inTx = none →
    let listens := s.bank.meters.indices fun m => match m.source with
      | .slots _ => true
      | .mark _ => false
      | .cascade _ => false
    let wraps := ¬ s.cal.position + 1 < s.cal.activeBank.length
    let ticks := if s.tx.tickDivider = 1023 then 1 else 0
    let framed (h : Header) (hop : BitVec 4) : Word :=
      let fields : BitVec 24 := h.kind.code ++ h.label ++ hop ++ BitVec.ofBool h.de ++ h.tag
      fields ++ headerCheck fields
    ∃ t c, exec .slotEvent s = .next t ∧ t.cal.inTx = some c ∧ t.tx.bytePosition = 0
      ∧ t.tx.outgoing = some (match c with
        | .pool k _ => { header := framed k.header (k.header.hop - 1), payload := k.payload }
        | .control k => { header := framed k.cell.header k.cell.header.hop, payload := k.cell.payload }
        | .idle => { header := 0x0000003C#32, payload := 0 })
      ∧ t.tx.tickDivider = s.tx.tickDivider + 1
      ∧ t.bank = { s.bank with slotDivider := s.bank.slotDivider + 1 }
      ∧ t.handover.sources = s.handover.sources
          ++ (if listens = [] then [] else [{ origin := .slot s.bank.slotDivider, targets := listens }])
      ∧ t.handover.sessionTicks = s.handover.sessionTicks + ticks ∧ t.handover.eventTicks = s.handover.eventTicks + ticks
      ∧ (¬ wraps → t.cal = { s.cal with position := s.cal.position + 1, inTx := some c })
      ∧ (wraps → s.cal.commitPending = false → t.cal = { s.cal with position := 0, inTx := some c })
      ∧ (wraps → s.cal.commitPending = true →
          t.cal = { s.cal with active := s.cal.active.other, commitPending := false, position := 0, inTx := some c }
            ∧ .calendarSwapped ∈ t.handover.flags)
      ∧ t.rx = s.rx ∧ t.port = s.port ∧ t.sess = s.sess ∧ t.settings = s.settings ∧ t.events = s.events
      ∧ t.engine.intake = s.engine.intake ∧ t.engine.restartPending = s.engine.restartPending ∧ t.pool.drop = s.pool.drop
      ∧ t.counters.queues = s.counters.queues ∧ t.counters.snapshot = s.counters.snapshot
      ∧ t.handover.reportsSent = s.handover.reportsSent ∧ t.nodeAddress = s.nodeAddress ∧ t.resetHeld = false

/-- Law L10 (R77, R79): a slot whose calendar entry is FIXED with queue q carries the cell that stands at the head of Qq once the heads to be
purged are gone, or an IDLE cell where none is left; no other queue gives a cell up. The cells gone were all to be purged, and, where queued
counts are right (law L4), the cell sent was not. -/
def Obligations.FixedSlotKeepsItsQueue : Prop :=
  ∀ s : State, s.resetHeld = false → s.cal.inTx = none →
    let e := s.cal.activeBank.entries.get (Fin.ofNat 256 s.cal.position)
    let doomed (c : QueuedCell) : Prop :=
      ∃ i, c.owner = some i ∧ (s.streams.get i).state = .retiring ∧ (s.streams.get i).purge = true
    e.kind = .fixed →
    ∃ t gone, exec .slotEvent s = .next t ∧ t.engine = s.engine
      ∧ (∀ p, p ≠ e.queue → t.pool.queues.get p = s.pool.queues.get p)
      ∧ (∀ c ∈ gone, doomed c)
      ∧ ((∃ c rest, (s.pool.queues.get e.queue).cells = gone ++ c :: rest ∧ (t.pool.queues.get e.queue).cells = rest
            ∧ t.cal.inTx = some (.pool c e.queue) ∧ (s.LawL4 → ¬ doomed c))
          ∨ ((s.pool.queues.get e.queue).cells = gone ∧ (t.pool.queues.get e.queue).cells = [] ∧ t.cal.inTx = some .idle))
      ∧ t.pool.free = s.pool.free + gone.length
      ∧ t.counters.device.get 11 = s.counters.device.get 11 + BitVec.ofNat 32 gone.length

/-- R16, R18, R23, R53, R79: consulting a queue purges the cells at its head whose owner is RETIRING with purge yes, and no others. Each gives its
buffer back, counts in RETIRING_DISCARDS and, if it is a DATA cell, in its owner's DISCARDED_OTHER, and leaves its owner's queued count; an owner
whose last cell goes is freed, and STREAM_RETIRED is handed over. The cell then at the head is not to be purged. Where no cell is purged nothing
changes. -/
def Obligations.PurgeAtTheHead : Prop :=
  ∀ (s : State) (q : Fin 8),
    let t := s.consult q
    let doomed (z : State) (c : QueuedCell) : Prop :=
      ∃ i, c.owner = some i ∧ (z.streams.get i).state = .retiring ∧ (z.streams.get i).purge = true
    ∃ gone, (s.pool.queues.get q).cells = gone ++ (t.pool.queues.get q).cells
      ∧ (gone = [] → t = s)
      ∧ (∀ c ∈ gone, doomed s c)
      ∧ (∀ c, (t.pool.queues.get q).cells.head? = some c → ¬ doomed t c)
      ∧ (∀ p, p ≠ q → t.pool.queues.get p = s.pool.queues.get p)
      ∧ t.pool.free = s.pool.free + gone.length ∧ t.pool.drop = s.pool.drop
      ∧ t.counters.device.get 11 = s.counters.device.get 11 + BitVec.ofNat 32 gone.length
      ∧ (∀ k, k ≠ 11 → t.counters.device.get k = s.counters.device.get k)
      ∧ t.counters.queues = s.counters.queues
      ∧ (∀ i, t.counters.streams.get i = { s.counters.streams.get i with
          discardedOther := (s.counters.streams.get i).discardedOther
            + BitVec.ofNat 32 (gone.countP fun c => decide (c.header.kind = .data ∧ c.owner = some i)) })
      ∧ (∀ i, (s.streams.get i).state = .active → t.streams.get i = s.streams.get i)
      ∧ (∀ i, ownedIn i gone = 0 ∨ ownedIn i gone < (s.streams.get i).queued →
          t.streams.get i = { s.streams.get i with queued := (s.streams.get i).queued - ownedIn i gone })
      ∧ (∀ i, 0 < ownedIn i gone → (s.streams.get i).queued = ownedIn i gone → t.streams.get i = .cleared)
      ∧ ((∃ i, 0 < ownedIn i gone ∧ (s.streams.get i).queued = ownedIn i gone) →
          t.handover = (s.hand .streamRetired).handover)
      ∧ ((∀ i, ownedIn i gone = 0 ∨ ownedIn i gone < (s.streams.get i).queued) → t.handover = s.handover)

/-- R53, R61, R84, R107, R168: the completion of a slot: what it counts, the buffer it returns, and the report completion it hands on. A cell
with a restart mark is left to the statements on the restarts. That byte position stands at 31 and the outgoing cell stays until the next slot
event is the model's choice (log entry 20). -/
def Obligations.SlotCompletion : Prop :=
  ∀ (s : State) (straps : BitVec 6), s.resetHeld = false →
    let done : State := { s with cal := { s.cal with inTx := none }, tx := { s.tx with bytePosition := 31 } }
    (∀ c q, s.cal.inTx = some (.pool c q) → exec (.slotCompletion straps) s = .next
        { done with
          pool := { s.pool with free := s.pool.free + 1 }
          counters := { s.counters with
            device := s.counters.device.set 13 (s.counters.device.get 13 + 1)
            queues := s.counters.queues.set q { s.counters.queues.get q with sent := (s.counters.queues.get q).sent + 1 } } })
    ∧ (∀ k, s.cal.inTx = some (.control k) → k.mark = none → k.producer ≠ .report → exec (.slotCompletion straps) s = .next
        { done with counters := { s.counters with device := s.counters.device.set 13 (s.counters.device.get 13 + 1) } })
    ∧ (∀ k, s.cal.inTx = some (.control k) → k.mark = none → k.producer = .report → exec (.slotCompletion straps) s = .next
        { done with
          counters := { s.counters with device := s.counters.device.set 13 (s.counters.device.get 13 + 1) }
          handover := { s.handover with
            reportsSent := s.handover.reportsSent ++ [(Control.ofPayload k.cell.payload).seq] } })
    ∧ (s.cal.inTx = some .idle → exec (.slotCompletion straps) s = .next
        { done with counters := { s.counters with device := s.counters.device.set 14 (s.counters.device.get 14 + 1) } })

/-! ### Ticks, flags and reports -/

/-- R132 to R134, R159: a tick at the Session Table raises every OPEN session's idle timer, and ends each session that has then reached the
*session timeout*: its entry becomes FREE, its claim and its snapshot go, and SESSION_ENDED is handed over once. The tick of a SESSION_EXPIRY
is one that ends a session (log entry 3). -/
def Obligations.SessionTick : Prop :=
  ∀ s : State, s.resetHeld = false → 0 < s.handover.sessionTicks →
    let raised (i : Fin 4) : Option Session :=
      (s.sess.entries.get i).map fun x => { x with idleTimer := min (x.idleTimer + 1) 65535 }
    let ends (i : Fin 4) : Bool := match raised i with
      | some x => decide (s.settings.sessionTimeout ≤ x.idleTimer)
      | none => false
    ∃ t, exec .sessionTick s = .next t
      ∧ (∀ i, t.sess.entries.get i = if ends i then none else raised i)
      ∧ t.sess.claim = (if ∃ i, s.sess.claim = some i ∧ ends i then none else s.sess.claim)
      ∧ t.counters.snapshot =
          (if ∃ i, s.counters.snapshot.owner = some i ∧ ends i then { records := [], source := none, owner := none }
           else s.counters.snapshot)
      ∧ t.handover.flags = s.handover.flags ++ (if ∃ i, ends i then [.sessionEnded] else [])
      ∧ t = { s with
          sess := t.sess
          counters := { s.counters with snapshot := t.counters.snapshot }
          handover := { s.handover with flags := t.handover.flags, sessionTicks := s.handover.sessionTicks - 1 } }
      ∧ ((∃ i, ends i = true) → exec .sessionExpiry s = .next t)
      ∧ ((∀ i, ends i = false) → exec .sessionExpiry s = .next s)

/-- R169: a tick at the Event Unit. A stopped timer does not rise; a running one rises; and at the *report timeout* the report is put into the
report store again, its retransmit flag set, or, with no retries left, the state becomes DOWN. The tick of a REPORT_TIMEOUT is one that
brings the timeout (log entry 3). -/
def Obligations.ReportTimer : Prop :=
  ∀ s : State, s.resetHeld = false → 0 < s.handover.eventTicks →
    let ticked (u : EventUnit) : State :=
      { s with events := u, handover := { s.handover with eventTicks := s.handover.eventTicks - 1 } }
    (s.events.timer = none →
        exec .eventUnitTick s = .next (ticked s.events) ∧ exec .reportTimeout s = .next s)
    ∧ ∀ n, s.events.timer = some n →
        (n + 1 < s.settings.reportTimeout →
            exec .eventUnitTick s = .next (ticked { s.events with timer := some (n + 1) }) ∧ exec .reportTimeout s = .next s)
        ∧ (s.settings.reportTimeout ≤ n + 1 → 0 < s.events.retriesLeft →
            let again := ticked { s.events with
              retriesLeft := s.events.retriesLeft - 1
              timer := none
              store := s.events.present.map fun c => { c with payload := retransmitted c.payload } }
            exec .eventUnitTick s = .next again ∧ exec .reportTimeout s = .next again)
        ∧ (s.settings.reportTimeout ≤ n + 1 → s.events.retriesLeft = 0 →
            let down := ticked { s.events with timer := none, reportState := .down, store := none }
            exec .eventUnitTick s = .next down ∧ exec .reportTimeout s = .next down)

/-- R162, R170: an occurrence handed to the Event Unit sets its flag, and the renewed mark of a flag that an OUTSTANDING or DOWN report
carries. Nothing else changes. -/
def Obligations.FlagSetting : Prop :=
  ∀ (s : State) (f : EventFlag) (before after : List EventFlag), s.resetHeld = false →
    s.handover.flags = before ++ f :: after → f ∉ before →
    let bit : BitVec 14 := 1#14 <<< flagNumber f
    exec (.eventFlagSet f) s = .next { s with
      events := { s.events with
        flags := s.events.flags ||| bit
        renewed := if s.events.reportState ≠ .idle ∧ s.events.carried &&& bit ≠ 0 then s.events.renewed ||| bit
          else s.events.renewed }
      handover := { s.handover with flags := before ++ after } }

/-- R165 to R168: the build of a report, when it is due and when it is not; the issue of the report in the store, when a place is free and
when it is not; and the taking of the completion of a report cell. The model's choices in it: a build leaves its report in the store even where
a place is free (log entry 5), and a build that is not due, or an issue with no report in the store or no place, leaves the part as it is
(log entry 1). -/
def Obligations.ReportBuildAndIssue : Prop :=
  ∀ s : State, s.resetHeld = false →
    let carried := s.events.flags &&& s.settings.reportMask
    (s.settings.reportTarget = none ∨ s.events.reportState ≠ .idle ∨ carried = 0 → exec .reportBuild s = .next s)
    ∧ (∀ target, s.settings.reportTarget = some target → s.events.reportState = .idle → carried ≠ 0 →
        let cell : ControlCell :=
          { header := { kind := .control, label := 0, hop := s.settings.controlHop, de := false, tag := 0 }
            payload :=
              ({ dest := target.setWidth 8, src := s.nodeAddress.setWidth 8, seq := s.events.number + 1, op := 0x70#8
                 flags := 0x10#8, status := 0, arg := 0, count := 0, index := 0
                 data := carried.setWidth 32 ++ s.events.flags.setWidth 32 ++ (rxStateCode s.rx.state).setWidth 32
                   ++ BitVec.ofNat 32 s.pool.free } : Control).toPayload }
        exec .reportBuild s = .next { s with events := { s.events with
          number := s.events.number + 1, carried := carried, renewed := 0, retriesLeft := s.settings.reportRetries
          timer := none, store := some cell, present := some cell, reportState := .outstanding } })
    ∧ (s.events.store = none → exec .reportIssue s = .next s)
    ∧ (∀ c, s.events.store = some c → s.engine.egress.length < 8 → exec .reportIssue s = .next { s with
        events := { s.events with store := none }
        engine := { s.engine with egress := s.engine.egress ++ [{ cell := c, producer := .report, mark := none }] } })
    ∧ (∀ c, s.events.store = some c → 8 ≤ s.engine.egress.length → exec .reportIssue s = .next s)
    ∧ ∀ n later, s.handover.reportsSent = n :: later →
        let taken (u : EventUnit) : State := { s with events := u, handover := { s.handover with reportsSent := later } }
        (s.events.reportState = .outstanding → n = s.events.number →
            exec .reportSendingComplete s = .next (taken { s.events with timer := some 0 }))
        ∧ (s.events.reportState ≠ .outstanding ∨ n ≠ s.events.number →
            exec .reportSendingComplete s = .next (taken s.events))

/-! ### Executions, sessions, the claim, the settings -/

/-- R126, and R128 steps 1 and 4: when no execution is taken, and the two refusals that touch no session. Each row of the table that is a command of
the intake is the execution of that command at the head of intake, and BAD_OP that of an OP that names none (the model's choice, log entry 2). The
BAD_PARAM of step 1 has ARG 0, for a METER command too, though R39 gives those a detail (the model's choice, log entry 14). -/
def Obligations.ExecutionAndSender : Prop :=
  ∀ (s : State) (op : Option Op), s.resetHeld = false →
    (s.engine.intake = [] ∨ s.engine.restartPending = true ∨ 8 ≤ s.engine.egress.length →
        exec (intakeCommand op) s = .next s)
    ∧ ∀ c rest, s.Takes c rest →
        (Op.ofCode c.op ≠ op → exec (intakeCommand op) s = .next s)
        ∧ (Op.ofCode c.op = op → 63 < c.src.toNat →
            exec (intakeCommand op) s = .next (s.answered rest (s.replyCell c { status := .badParam })))
        ∧ (Op.ofCode c.op = op → op ≠ some .discover → op ≠ some .openSession → c.src.toNat ≤ 63 →
            (∀ j, s.managerOf j ≠ some (c.src.setWidth 6)) →
            exec (intakeCommand op) s = .next (s.answered rest (s.replyCell c { status := .noSession })))

/-- R124, R179: every field of the reply to a command. -/
def Obligations.ReplyContent : Prop :=
  ∀ (s : State) (c : Control) (r : Reply),
    let cell := s.replyCell c r
    let k := Control.ofPayload cell.payload
    cell.header = { kind := .control, label := 0, hop := s.settings.controlHop, de := false, tag := 0 }
      ∧ k.dest = c.src ∧ k.src = s.nodeAddress.setWidth 8 ∧ k.seq = c.seq ∧ k.op = c.op ∧ k.flags = 0x80#8
      ∧ k.status = r.status.code ∧ k.arg = r.arg ∧ k.count = r.count ∧ k.index = r.index ∧ k.data = r.data
      ∧ goodPayload cell.payload = true

/-- R128 step 5, R130 to R132: a command from an open session whose SEQ is not the next: the last SEQ is answered from the cache with the
retransmit flag set, and any other draws SEQUENCE; either way nothing of the session but its idle timer changes. -/
def Obligations.SequenceCheck : Prop :=
  ∀ (s : State) (c : Control) (rest : List ControlCell) (i : Fin 4) (x : Session), s.Takes c rest → c.src.toNat ≤ 63 →
    s.sessionOf (c.src.setWidth 6) = some i → s.sess.entries.get i = some x →
    Op.ofCode c.op ≠ some .discover → Op.ofCode c.op ≠ some .openSession → c.seq ≠ x.lastSeq + 1 →
    let heard (cell : ControlCell) : State := { s.answered rest cell with
      sess := { s.sess with entries := s.sess.entries.set i (some { x with idleTimer := 0 }) } }
    (c.seq = x.lastSeq → exec (intakeCommand (Op.ofCode c.op)) s = .next
        (heard { x.cached with payload := retransmitted x.cached.payload }))
    ∧ (c.seq ≠ x.lastSeq → exec (intakeCommand (Op.ofCode c.op)) s = .next
        (heard (s.replyCell c { status := .sequence, data := dataWords (x.lastSeq.setWidth 32) 0 0 0 })))

/-- R139: a command that needs the edit claim, accepted from a session that does not hold it, is answered NOT_HOLDER with the holder's
node, or FFh where the claim is free, and is not executed. -/
def Obligations.NotHolderWithoutTheClaim : Prop :=
  ∀ (s : State) (c : Control) (rest : List ControlCell) (i : Fin 4) (x : Session) (op : Op), s.Accepts c rest i x →
    Op.ofCode c.op = some op → opNeedsClaim c op = true → s.sess.claim ≠ some i →
    (∀ j, s.sess.claim = some j → (s.sess.entries.get j).isSome = true) →
    exec (opCommand op) s = .next (s.executed c rest i x (s.replyCell c
      { status := .notHolder
        data := dataWords ((match s.sess.claim with
          | some j => nodeField (s.managerOf j)
          | none => 0xFF#8).setWidth 32) 0 0 0 }))

/-- R132, R135, R182: DISCOVER is answered with the identity words, and restarts the idle timer of the sender's session if it has one. -/
def Obligations.Discover : Prop :=
  ∀ (s : State) (c : Control) (rest : List ControlCell), s.Takes c rest → c.src.toNat ≤ 63 → Op.ofCode c.op = some .discover →
    let cell := s.replyCell c
      { status := .ok
        data := dataWords 0x3A1C2416#32 (0x01#8 ++ s.nodeAddress.setWidth 8 ++ BitVec.ofNat 8 s.freeSessions ++ 0x04#8) 0x01000200#32
          0x80080100#32 }
    (s.sessionOf (c.src.setWidth 6) = none → exec .discover s = .next (s.answered rest cell))
    ∧ ∀ i x, s.sessionOf (c.src.setWidth 6) = some i → s.sess.entries.get i = some x →
        exec .discover s = .next { s.answered rest cell with
          sess := { s.sess with entries := s.sess.entries.set i (some { x with idleTimer := 0 }) } }

/-- R134, R136: the four cases of OPEN. In case 2 the claim holder that the reply shows is read after the teardown (the model's choice, log
entry 14). -/
def Obligations.OpenHasFourCases : Prop :=
  ∀ (s : State) (c : Control) (rest : List ControlCell), s.Takes c rest → c.src.toNat ≤ 63 → Op.ofCode c.op = some .openSession →
    (∀ j, s.sess.claim = some j → (s.sess.entries.get j).isSome = true) →
    let opened (z : State) (i : Fin 4) (holder : Byte) (free : Nat) : State :=
      let cell := s.replyCell c
        { status := .ok
          data := dataWords (BitVec.ofNat 32 s.settings.sessionTimeout) (holder.setWidth 32) (BitVec.ofNat 32 free) 0 }
      { z.answered rest cell with sess := { z.sess with
        entries := s.sess.entries.set i
          (some { manager := c.src.setWidth 6, lastSeq := c.seq, cached := cell, idleTimer := 0 }) } }
    let holder : Byte := match s.sess.claim with
      | some j => nodeField (s.managerOf j)
      | none => 0xFF#8
    (∀ i x, s.sessionOf (c.src.setWidth 6) = some i → s.sess.entries.get i = some x →
        (Control.ofPayload x.cached.payload).op = 0x02#8 → (Control.ofPayload x.cached.payload).seq = c.seq →
        exec .openSession s = .next { s.answered rest { x.cached with payload := retransmitted x.cached.payload } with
          sess := { s.sess with entries := s.sess.entries.set i (some { x with idleTimer := 0 }) } })
    ∧ (∀ i x, s.sessionOf (c.src.setWidth 6) = some i → s.sess.entries.get i = some x →
        ((Control.ofPayload x.cached.payload).op ≠ 0x02#8 ∨ (Control.ofPayload x.cached.payload).seq ≠ c.seq) →
        exec .openSession s = .next ((opened { s with
            sess := { s.sess with claim := if s.sess.claim = some i then none else s.sess.claim }
            counters := { s.counters with
              snapshot := if s.counters.snapshot.owner = some i then { records := [], source := none, owner := none }
                else s.counters.snapshot } }
          i (if s.sess.claim = some i then 0xFF#8 else holder) s.freeSessions).handsOver [.sessionEnded]))
    ∧ (∀ i, s.sessionOf (c.src.setWidth 6) = none → s.sess.entries.get i = none →
        (∀ j, j < i → (s.sess.entries.get j).isSome = true) →
        exec .openSession s = .next (opened s i holder (s.freeSessions - 1)))
    ∧ (s.sessionOf (c.src.setWidth 6) = none → (∀ j, (s.sess.entries.get j).isSome = true) →
        exec .openSession s = .next (s.answered rest (s.replyCell c { status := .sessionsFull })))

/-- R128 step 6, R138, R144, R145, section 10.5: the accepted commands that read and write nothing of the tables: an OP that names no command,
PING, GET and STATUS. -/
def Obligations.SessionQueries : Prop :=
  ∀ (s : State) (c : Control) (rest : List ControlCell) (i : Fin 4) (x : Session), s.Accepts c rest i x →
    let answers (cmd : Instr) (r : Reply) : Prop := exec cmd s = .next (s.executed c rest i x (s.replyCell c r))
    (Op.ofCode c.op = none → answers .badOp { status := .badOp })
    ∧ (Op.ofCode c.op = some .ping → answers .ping { status := .ok })
    ∧ (Op.ofCode c.op = some .get → (c.arg.toNat = 0 ∨ 9 < c.arg.toNat) → answers .get { status := .badParam })
    ∧ (∀ name, Op.ofCode c.op = some .get → decodeSetting c.arg = some name →
        answers .get { status := .ok, data := dataWords (settingValue s.settings name) 0 0 0 })
    ∧ (Op.ofCode c.op = some .status → (∀ j, s.sess.claim = some j → (s.sess.entries.get j).isSome = true) →
        answers .status
          { status := .ok
            data := dataWords
              (rxStateCode s.rx.state ++ bankCode s.cal.active ++ (if s.cal.commitPending then 1#8 else 0#8)
                ++ lastResetCode s.engine.lastReset)
              (BitVec.ofNat 16 s.pool.free ++ reportStateCode s.events.reportState ++ s.events.number)
              ((match s.sess.claim with
                | some j => nodeField (s.managerOf j)
                | none => 0xFF#8) ++ BitVec.ofNat 8 s.openSessions ++ BitVec.ofNat 8 rest.length
                ++ BitVec.ofNat 8 s.engine.egress.length)
              0 })

/-- R134, R137, R140, R141: CLOSE ends its session, whose entry, claim and snapshot go; CLAIM and RELEASE, on a claim that is free, held by the
sender's session, or held by another. -/
def Obligations.CloseClaimRelease : Prop :=
  ∀ (s : State) (c : Control) (rest : List ControlCell) (i : Fin 4) (x : Session), s.Accepts c rest i x →
    (∀ j, s.sess.claim = some j → (s.sess.entries.get j).isSome = true) →
    let ok := s.replyCell c { status := .ok }
    let refused := s.replyCell c
      { status := .notHolder
        data := dataWords ((match s.sess.claim with
          | some j => nodeField (s.managerOf j)
          | none => 0xFF#8).setWidth 32) 0 0 0 }
    let claimed (z : Option (Fin 4)) : State := { s with sess := { s.sess with claim := z } }
    (Op.ofCode c.op = some .closeSession → exec .closeSession s = .next { s.answered rest ok with
        sess := { entries := s.sess.entries.set i none, claim := if s.sess.claim = some i then none else s.sess.claim }
        counters := { (s.answered rest ok).counters with
          snapshot := if s.counters.snapshot.owner = some i then { records := [], source := none, owner := none }
            else s.counters.snapshot } })
    ∧ (Op.ofCode c.op = some .claim → (s.sess.claim = none ∨ s.sess.claim = some i) →
        exec .claim s = .next ((claimed (some i)).executed c rest i x ok))
    ∧ (∀ j, Op.ofCode c.op = some .claim → s.sess.claim = some j → j ≠ i → exec .claim s = .next (s.executed c rest i x refused))
    ∧ (Op.ofCode c.op = some .release → s.sess.claim = some i →
        exec .release s = .next ((claimed none).executed c rest i x ok))
    ∧ (Op.ofCode c.op = some .release → s.sess.claim ≠ some i → exec .release s = .next (s.executed c rest i x refused))

/-- R142, R143, section 10.4: the values SET takes for each setting; a value taken is the one the setting then holds, and no other setting
changes. That the value is the whole of DATA word 0, so that higher bits set in a *report target* or a *report mask* draw BAD_PARAM, is the model's
choice (log entry 13). -/
def Obligations.SettingValues : Prop :=
  ∀ (x : Settings) (w : Word),
    ((setSetting x .unknownPolicy w).isSome = true ↔ w.toNat ≤ 1)
    ∧ ((setSetting x .unknownQueue w).isSome = true ↔ w.toNat ≤ 7)
    ∧ ((setSetting x .dropLimit w).isSome = true ↔ w.toNat ≤ 512)
    ∧ ((setSetting x .reportTarget w).isSome = true ↔ w.toNat ≤ 63 ∨ w.toNat = 0xFF)
    ∧ ((setSetting x .reportMask w).isSome = true ↔ w.toNat < 2 ^ 14)
    ∧ ((setSetting x .reportTimeout w).isSome = true ↔ 1 ≤ w.toNat ∧ w.toNat ≤ 255)
    ∧ ((setSetting x .reportRetries w).isSome = true ↔ w.toNat ≤ 7)
    ∧ ((setSetting x .sessionTimeout w).isSome = true ↔ 1 ≤ w.toNat ∧ w.toNat ≤ 65535)
    ∧ ((setSetting x .controlHop w).isSome = true ↔ 1 ≤ w.toNat ∧ w.toNat ≤ 15)
    ∧ ∀ name y, setSetting x name w = some y →
        settingValue y name = w ∧ ∀ other, other ≠ name → settingValue y other = settingValue x other

/-- R65, R143, R175: SET, accepted from the holder of the claim. -/
def Obligations.SetCommand : Prop :=
  ∀ (s : State) (c : Control) (rest : List ControlCell) (i : Fin 4) (x : Session), s.AcceptsClaimed c rest i x →
    Op.ofCode c.op = some .set →
    let refused (st : Status) : Prop := exec .set s = .next (s.executed c rest i x (s.replyCell c { status := st }))
    (decodeSetting c.arg = none → refused .badParam)
    ∧ ∀ name, decodeSetting c.arg = some name →
        (setSetting s.settings name (c.word 0) = none → refused .badParam)
        ∧ ∀ y, setSetting s.settings name (c.word 0) = some y →
            (name = .dropLimit → y.dropLimit < s.pool.drop.length → refused .busy)
            ∧ ((name = .dropLimit → s.pool.drop.length ≤ y.dropLimit) →
                let u := s.events
                let abandoned : EventUnit := { u with
                  reportState := .idle, carried := 0, renewed := 0, retriesLeft := y.reportRetries, timer := none, store := none
                  present := none }
                exec .set s = .next (({ s with
                  settings := y
                  events := if y.reportTarget ≠ s.settings.reportTarget ∧ u.reportState ≠ .idle then abandoned else u }
                    : State).executed c rest i x (s.replyCell c
                      { status := .ok, data := dataWords (c.word 0) 0 0 0 })))

/-- R146: RESTART, accepted from the holder of the claim: its reply carries the restart mark, and the engine takes no more executions. -/
def Obligations.RestartCommand : Prop :=
  ∀ (s : State) (c : Control) (rest : List ControlCell) (i : Fin 4) (x : Session), s.AcceptsClaimed c rest i x →
    Op.ofCode c.op = some .restart →
    let pending (kind : RestartKind) : Prop := exec .restart s = .next
      (({ s with engine := { s.engine with restartPending := true } } : State).executed c rest i x
        (s.replyCell c { status := .ok, arg := c.arg }) (some kind))
    (c.arg = 1 → pending .traffic)
    ∧ (c.arg = 2 → pending .all)
    ∧ (c.arg ≠ 1 → c.arg ≠ 2 → exec .restart s = .next (s.executed c rest i x (s.replyCell c { status := .badParam })))

/-! ### The table commands -/

/-- R19, R20: STREAM-ADD, accepted from the holder of the claim: ill-coded fields, a label held by an entry that is not FREE, no FREE
entry, and otherwise the lowest FREE entry made ACTIVE with its counters at 0. -/
def Obligations.StreamAdd : Prop :=
  ∀ (s : State) (c : Control) (rest : List ControlCell) (i : Fin 4) (x : Session), s.AcceptsClaimed c rest i x →
    Op.ofCode c.op = some .streamAdd →
    let f := streamFields c
    let refused (r : Reply) : Prop := exec .streamAdd s = .next (s.executed c rest i x (s.replyCell c r))
    (f.action = none ∨ f.queue = none ∨ f.meter = none ∨ f.onExceed = none ∨ f.addAllowed = none ∨ f.addHop = none →
        refused { status := .badParam })
    ∧ ∀ action queue meter onExceed addAllowed addHop, f.action = some action → f.queue = some queue → f.meter = some meter →
        f.onExceed = some onExceed → f.addAllowed = some addAllowed → f.addHop = some addHop →
        (∀ n, s.LawL3 → (s.streams.get n).state ≠ .free → (s.streams.get n).label = f.label →
            refused { status := .exists_, index := BitVec.ofNat 16 n.val })
        ∧ ((∀ n, (s.streams.get n).state ≠ .free → (s.streams.get n).label ≠ f.label) →
            ((∀ n, (s.streams.get n).state ≠ .free) → refused { status := .full })
            ∧ ∀ n, (s.streams.get n).state = .free → (∀ m, m < n → (s.streams.get m).state ≠ .free) →
                exec .streamAdd s = .next (({ s with
                  streams := s.streams.set n
                    { label := f.label, state := .active, action := action, queue := queue, meter := meter
                      onExceed := onExceed, addAllowed := addAllowed, addHop := addHop, purge := false, queued := 0 }
                  counters := { s.counters with
                    streams := s.counters.streams.set n { arrived := 0, marked := 0, discardedPolice := 0, discardedOther := 0 } } }
                    : State).executed c rest i x (s.replyCell c { status := .ok, index := BitVec.ofNat 16 n.val })))

/-- R19, R21, R22: STREAM-SET and STREAM-REMOVE, accepted from the holder of the claim. -/
def Obligations.StreamSetAndRemove : Prop :=
  ∀ (s : State) (c : Control) (rest : List ControlCell) (i : Fin 4) (x : Session), s.AcceptsClaimed c rest i x →
    let f := streamFields c
    let set := Op.ofCode c.op = some .streamSet
    let remove := Op.ofCode c.op = some .streamRemove
    let answers (cmd : Instr) (t : State) (r : Reply) : Prop := exec cmd s = .next (t.executed c rest i x (s.replyCell c r))
    (255 < c.index.toNat →
        (set → answers .streamSet s { status := .badParam }) ∧ (remove → answers .streamRemove s { status := .badParam }))
    ∧ ∀ n : Fin 256, c.index.toNat = n.val →
        let e := s.streams.get n
        let put (z : StreamEntry) : State := { s with streams := s.streams.set n z }
        (e.state = .free →
            (set → answers .streamSet s { status := .notFound }) ∧ (remove → answers .streamRemove s { status := .notFound }))
        ∧ (e.state = .retiring →
            (set → answers .streamSet s { status := .busy }) ∧ (remove → answers .streamRemove s { status := .busy }))
        ∧ (e.state = .active → remove → e.queued = 0 →
            answers .streamRemove ((put
              { label := 0, state := .free, action := .discard, queue := 0, meter := none, onExceed := .discard, addAllowed := false
                addHop := 1, purge := false, queued := 0 }).handsOver [.streamRetired]) { status := .ok, arg := 1 })
        ∧ (e.state = .active → remove → 0 < e.queued →
            answers .streamRemove (put { e with state := .retiring, purge := c.arg.getLsbD 0 }) { status := .ok, arg := 2 })
        ∧ (e.state = .active → set →
            (c.arg.getLsbD 0 ∧ f.action = none) ∨ (c.arg.getLsbD 1 ∧ f.queue = none) ∨ (c.arg.getLsbD 2 ∧ f.meter = none)
              ∨ (c.arg.getLsbD 3 ∧ f.onExceed = none) ∨ (c.arg.getLsbD 4 ∧ f.addAllowed = none)
              ∨ (c.arg.getLsbD 5 ∧ f.addHop = none) → answers .streamSet s { status := .badParam })
        ∧ ∀ action queue meter onExceed addAllowed addHop, e.state = .active → set →
            (if c.arg.getLsbD 0 then f.action else some e.action) = some action →
            (if c.arg.getLsbD 1 then f.queue else some e.queue) = some queue →
            (if c.arg.getLsbD 2 then f.meter else some e.meter) = some meter →
            (if c.arg.getLsbD 3 then f.onExceed else some e.onExceed) = some onExceed →
            (if c.arg.getLsbD 4 then f.addAllowed else some e.addAllowed) = some addAllowed →
            (if c.arg.getLsbD 5 then f.addHop else some e.addHop) = some addHop →
            (queue ≠ e.queue → 0 < e.queued → answers .streamSet s { status := .busy })
            ∧ ((queue = e.queue ∨ e.queued = 0) →
                answers .streamSet (put { e with
                  action := action, queue := queue, meter := meter, onExceed := onExceed, addAllowed := addAllowed
                  addHop := addHop }) { status := .ok })

/-- R19, R24, section 10.4: STREAM-READ and STREAM-FIND. -/
def Obligations.StreamReadAndFind : Prop :=
  ∀ (s : State) (c : Control) (rest : List ControlCell) (i : Fin 4) (x : Session), s.Accepts c rest i x →
    let answers (cmd : Instr) (r : Reply) : Prop := exec cmd s = .next (s.executed c rest i x (s.replyCell c r))
    (Op.ofCode c.op = some .streamRead → 255 < c.index.toNat → answers .streamRead { status := .badParam })
    ∧ (∀ n : Fin 256, Op.ofCode c.op = some .streamRead → c.index.toNat = n.val →
        answers .streamRead { status := .ok, data := streamRecord (s.streams.get n) })
    ∧ (Op.ofCode c.op = some .streamFind → 4095 < c.index.toNat → answers .streamFind { status := .badParam })
    ∧ (Op.ofCode c.op = some .streamFind → c.index.toNat ≤ 4095 →
        (∀ n, (s.streams.get n).state ≠ .free → (s.streams.get n).label.toNat ≠ c.index.toNat) →
        answers .streamFind { status := .notFound })
    ∧ ∀ n, Op.ofCode c.op = some .streamFind → s.LawL3 → (s.streams.get n).state ≠ .free →
        (s.streams.get n).label.toNat = c.index.toNat →
        answers .streamFind
          { status := .ok, index := BitVec.ofNat 16 n.val
            data := dataWords (0#4 ++ (s.streams.get n).label ++ entryStateCode (s.streams.get n).state ++ 0#8) 0 0 0 }

/-- R38 to R42: METER-SET, accepted from the holder of the claim: its checks in order, and then the named fields written, the live fields
bounded against the new values, and the named counts of the old and the new partner moved. -/
def Obligations.MeterSet : Prop :=
  ∀ (s : State) (c : Control) (rest : List ControlCell) (i : Fin 4) (x : Session), s.AcceptsClaimed c rest i x →
    Op.ofCode c.op = some .meterSet →
    let f := meterFields c
    let refused (detail : Byte) : Prop :=
      exec .meterSet s = .next (s.executed c rest i x (s.replyCell c { status := .badParam, arg := detail }))
    (127 < c.index.toNat → refused 1)
    ∧ ∀ m : Fin 128, c.index.toNat = m.val →
        let y := s.bank.meters.get m
        ((c.arg.getLsbD 0 ∧ f.limit = none) ∨ (c.arg.getLsbD 1 ∧ f.increment = none) ∨ (c.arg.getLsbD 2 ∧ f.period = none)
            ∨ (c.arg.getLsbD 3 ∧ f.source = none) ∨ (c.arg.getLsbD 4 ∧ f.partner = none) → refused 1)
        ∧ ∀ limit increment period source partner,
            (if c.arg.getLsbD 0 then f.limit else some y.limit) = some limit →
            (if c.arg.getLsbD 1 then f.increment else some y.increment) = some increment →
            (if c.arg.getLsbD 2 then f.period else some y.period) = some period →
            (if c.arg.getLsbD 3 then f.source else some y.source) = some source →
            (if c.arg.getLsbD 4 then f.partner else some y.partner) = some partner →
            let upward := c.arg.getLsbD 3 = true ∧ ∃ n, source = .cascade n ∧ m ≤ n
            let unfit := c.arg.getLsbD 4 = true ∧ ∃ p, partner = some p
              ∧ (p = m ∨ (s.bank.meters.get p).partner ≠ none ∨ 0 < y.named)
            (upward → refused 2)
            ∧ (¬ upward → unfit → refused 3)
            ∧ (¬ upward → ¬ unfit → ∃ ms : Table Meter 128,
                (∀ n, ms.get n =
                  let z := if n = m then { y with
                      limit := limit, increment := increment, period := period, source := source, partner := partner
                      credit := min y.credit limit, counter := min y.counter period }
                    else s.bank.meters.get n
                  if partner = y.partner then z
                  else if y.partner = some n then { z with named := z.named - 1 }
                  else if partner = some n then { z with named := z.named + 1 } else z)
                ∧ exec .meterSet s = .next (({ s with bank := { s.bank with meters := ms } } : State).executed c rest i x
                    (s.replyCell c { status := .ok, data := meterRecord (ms.get m) })))

/-- R39, R44 to R47: METER-READ, METER-RELOAD, METER-HOLD and METER-RUN; the last three accepted from the holder of the claim. -/
def Obligations.MeterReadReloadHoldRun : Prop :=
  ∀ (s : State) (c : Control) (rest : List ControlCell) (i : Fin 4) (x : Session), s.Accepts c rest i x →
    let answers (cmd : Instr) (t : State) (r : Reply) : Prop := exec cmd s = .next (t.executed c rest i x (s.replyCell c r))
    let range : Reply := { status := .badParam, arg := 1 }
    let listed (m : Fin 128) : Bool := (List.range c.count.toNat).any fun k => (c.word k).toNat = m.val
    let changes (running : Bool) (m : Fin 128) : Bool := listed m && ((s.bank.meters.get m).running != running)
    let ranges := 1 ≤ c.count.toNat ∧ c.count.toNat ≤ 4 ∧ ∀ k, k < c.count.toNat → (c.word k).toNat ≤ 127
    (Op.ofCode c.op = some .meterRead → 127 < c.index.toNat → answers .meterRead s range)
    ∧ (∀ m : Fin 128, Op.ofCode c.op = some .meterRead → c.index.toNat = m.val →
        answers .meterRead s { status := .ok, data := meterRecord (s.bank.meters.get m) })
    ∧ (s.sess.claim = some i →
        (Op.ofCode c.op = some .meterReload → 127 < c.index.toNat → answers .meterReload s range)
        ∧ (∀ m : Fin 128, Op.ofCode c.op = some .meterReload → c.index.toNat = m.val →
            let y := s.bank.meters.get m
            answers .meterReload { s with bank := { s.bank with
              meters := s.bank.meters.set m { y with credit := y.limit, counter := y.period } } } { status := .ok })
        ∧ (Op.ofCode c.op = some .meterHold → ¬ ranges → answers .meterHold s range)
        ∧ (Op.ofCode c.op = some .meterRun → ¬ ranges → answers .meterRun s range)
        ∧ ∀ running, ranges → Op.ofCode c.op = some (if running then .meterRun else .meterHold) →
            ∃ ms : Table Meter 128,
              (∀ m, ms.get m =
                if listed m then { s.bank.meters.get m with running := running } else s.bank.meters.get m)
              ∧ answers (if running then .meterRun else .meterHold) { s with bank := { s.bank with meters := ms } }
                  { status := .ok, arg := BitVec.ofNat 8 ((List.finRange 128).countP (changes running)) })

/-- R66, R68, section 10.4: QUEUE-SET, accepted from the holder of the claim, and QUEUE-READ, whose INDEX 8 is the drop queue.
That a BUSY reply is cached like any other is R128's reading against R67 (the model's choice, log entry 19). -/
def Obligations.QueueCommands : Prop :=
  ∀ (s : State) (c : Control) (rest : List ControlCell) (i : Fin 4) (x : Session), s.Accepts c rest i x →
    let answers (cmd : Instr) (t : State) (r : Reply) : Prop := exec cmd s = .next (t.executed c rest i x (s.replyCell c r))
    let free : Word := BitVec.ofNat 32 s.pool.free
    let f := queueFields c
    (Op.ofCode c.op = some .queueRead → 8 < c.index.toNat → answers .queueRead s { status := .badParam })
    ∧ (Op.ofCode c.op = some .queueRead → c.index.toNat = 8 →
        answers .queueRead s
          { status := .ok, data := queueRecord s.settings.dropLimit 0 false s.pool.drop.length free })
    ∧ (Op.ofCode c.op = some .queueSet → s.sess.claim = some i → 7 < c.index.toNat → answers .queueSet s { status := .badParam })
    ∧ ∀ q : Fin 8, c.index.toNat = q.val →
        let y := s.pool.queues.get q
        let limit := if c.arg.getLsbD 0 then f.limit else y.limit
        let bad := (c.arg.getLsbD 0 = true ∧ 512 < f.limit) ∨ (c.arg.getLsbD 1 = true ∧ (512 < f.deThreshold ∨ limit < f.deThreshold))
          ∨ (c.arg.getLsbD 2 = true ∧ f.fill = none)
        let threshold := if c.arg.getLsbD 1 then f.deThreshold else if c.arg.getLsbD 0 then min y.deThreshold limit else y.deThreshold
        (Op.ofCode c.op = some .queueRead →
            answers .queueRead s { status := .ok, data := queueRecord y.limit y.deThreshold y.fill y.cells.length free })
        ∧ (Op.ofCode c.op = some .queueSet → s.sess.claim = some i → bad → answers .queueSet s { status := .badParam })
        ∧ (Op.ofCode c.op = some .queueSet → s.sess.claim = some i → ¬ bad → c.arg.getLsbD 0 = true → f.limit < y.cells.length →
            answers .queueSet s { status := .busy })
        ∧ ∀ fill, Op.ofCode c.op = some .queueSet → s.sess.claim = some i → ¬ bad →
            (c.arg.getLsbD 0 = false ∨ y.cells.length ≤ f.limit) →
            (if c.arg.getLsbD 2 then f.fill else some y.fill) = some fill →
            answers .queueSet
              { s with pool := { s.pool with
                queues := s.pool.queues.set q { y with limit := limit, deThreshold := threshold, fill := fill } } }
              { status := .ok, data := queueRecord limit threshold fill y.cells.length 0 }

/-- R85 to R88: CAL-WRITE, CAL-LENGTH and CAL-COPY, accepted from the holder of the claim, write the shadow bank alone. -/
def Obligations.CalendarWrites : Prop :=
  ∀ (s : State) (c : Control) (rest : List ControlCell) (i : Fin 4) (x : Session), s.AcceptsClaimed c rest i x →
    let answers (cmd : Instr) (t : State) (r : Reply) : Prop := exec cmd s = .next (t.executed c rest i x (s.replyCell c r))
    let active := if s.cal.active = .a then s.cal.bankA else s.cal.bankB
    let shadow := if s.cal.active = .a then s.cal.bankB else s.cal.bankA
    let written (b : Bank) : State := { s with cal :=
      if s.cal.active = .a then { s.cal with bankB := b } else { s.cal with bankA := b } }
    let ranges := c.index.toNat ≤ 255 ∧ (1 ≤ c.count.toNat ∧ c.count.toNat ≤ 16) ∧ c.index.toNat + c.count.toNat ≤ 256
    let coded := ∀ k, k < c.count.toNat → (c.byte k).extractLsb' 6 2 ≠ 0
    (Op.ofCode c.op = some .calWrite → (¬ ranges ∨ ¬ coded) → answers .calWrite s { status := .badParam })
    ∧ (Op.ofCode c.op = some .calWrite → ranges → coded → s.cal.commitPending = true → answers .calWrite s { status := .busy })
    ∧ (Op.ofCode c.op = some .calWrite → ranges → coded → s.cal.commitPending = false →
        ∃ es : Table CalEntry 256,
          (∀ k : Fin 256, k.val < c.index.toNat ∨ c.index.toNat + c.count.toNat ≤ k.val → es.get k = shadow.entries.get k)
          ∧ (∀ k : Fin 256, c.index.toNat ≤ k.val → k.val < c.index.toNat + c.count.toNat →
              decodeCalEntry (c.byte (k.val - c.index.toNat)) = some (es.get k))
          ∧ answers .calWrite (written { shadow with entries := es }) { status := .ok, count := c.count })
    ∧ (Op.ofCode c.op = some .calLength → (c.index.toNat = 0 ∨ 256 < c.index.toNat) → answers .calLength s { status := .badParam })
    ∧ (Op.ofCode c.op = some .calLength → 1 ≤ c.index.toNat → c.index.toNat ≤ 256 → s.cal.commitPending = true →
        answers .calLength s { status := .busy })
    ∧ (Op.ofCode c.op = some .calLength → 1 ≤ c.index.toNat → c.index.toNat ≤ 256 → s.cal.commitPending = false →
        answers .calLength (written { shadow with length := c.index.toNat }) { status := .ok })
    ∧ (Op.ofCode c.op = some .calCopy → s.cal.commitPending = true → answers .calCopy s { status := .busy })
    ∧ (Op.ofCode c.op = some .calCopy → s.cal.commitPending = false → answers .calCopy (written active) { status := .ok })

/-- R74, R89 to R91: CAL-READ, and CAL-COMMIT and CAL-CANCEL accepted from the holder of the claim. -/
def Obligations.CalendarReadCommitCancel : Prop :=
  ∀ (s : State) (c : Control) (rest : List ControlCell) (i : Fin 4) (x : Session), s.Accepts c rest i x →
    let answers (cmd : Instr) (t : State) (r : Reply) : Prop := exec cmd s = .next (t.executed c rest i x (s.replyCell c r))
    let commit (b : Bool) : State := { s with cal := { s.cal with commitPending := b } }
    let shadow := if s.cal.active = .a then s.cal.bankB else s.cal.bankA
    let ranges := c.index.toNat ≤ 255 ∧ (1 ≤ c.count.toNat ∧ c.count.toNat ≤ 16) ∧ c.index.toNat + c.count.toNat ≤ 256
    let serves := ∃ k : Fin 256, k.val < shadow.length ∧ (shadow.entries.get k).kind ≠ .fixed
    (Op.ofCode c.op = some .calRead → (3 < c.arg.toNat ∨ ¬ ranges) → answers .calRead s { status := .badParam })
    ∧ (∀ name : BankName, Op.ofCode c.op = some .calRead → ranges →
        (c.arg = 0 ∧ name = .a) ∨ (c.arg = 1 ∧ name = .b) ∨ (c.arg = 2 ∧ name = s.cal.active)
          ∨ (c.arg = 3 ∧ name ≠ s.cal.active) →
        let b := if name = .a then s.cal.bankA else s.cal.bankB
        ∃ r : Reply, answers .calRead s r ∧ r.status = .ok
          ∧ r.arg = (if name = .a then 0#8 else 1#8) + (if name = s.cal.active then 2#8 else 0#8)
              + (if s.cal.commitPending then 4#8 else 0#8)
          ∧ r.index = BitVec.ofNat 16 b.length ∧ r.count = BitVec.ofNat 8 s.cal.position
          ∧ (∀ k : Nat, k < c.count.toNat →
              r.data.extractLsb' ((15 - k) * 8) 8 = calEntryByte (b.entries.get (Fin.ofNat 256 (c.index.toNat + k))))
          ∧ (∀ k : Nat, c.count.toNat ≤ k → k < 16 → r.data.extractLsb' ((15 - k) * 8) 8 = 0))
    ∧ (s.sess.claim = some i →
        (Op.ofCode c.op = some .calCommit → ¬ serves → answers .calCommit s { status := .badParam })
        ∧ (Op.ofCode c.op = some .calCommit → serves → s.cal.commitPending = true → answers .calCommit s { status := .pending })
        ∧ (Op.ofCode c.op = some .calCommit → serves → s.cal.commitPending = false →
            answers .calCommit (commit true) { status := .accepted })
        ∧ (Op.ofCode c.op = some .calCancel → s.cal.commitPending = true →
            answers .calCancel (commit false) { status := .ok, arg := 1 })
        ∧ (Op.ofCode c.op = some .calCancel → s.cal.commitPending = false → answers .calCancel s { status := .ok, arg := 2 }))

/-- R154 to R156, section 10.4: SNAP-TAKE: its checks in order, and then the records copied, with the raise for this execution among them, and,
with the clear option, the counters copied set to 0. `z` is the Counter Bank with that raise. -/
def Obligations.SnapTake : Prop :=
  ∀ (s : State) (c : Control) (rest : List ControlCell) (i : Fin 4) (x : Session), s.Accepts c rest i x →
    Op.ofCode c.op = some .snapTake → (c.arg.getLsbD 4 = true → s.sess.claim = some i) →
    let z : CounterBank := { s.counters with device := s.counters.device.set 15 (s.counters.device.get 15 + 1) }
    let clear := c.arg.getLsbD 4
    let refused (r : Reply) : Prop := exec .snapTake s = .next (s.executed c rest i x (s.replyCell c r))
    let taken (after : CounterBank) (source : SnapSource) (code : Byte) (records : List SnapRecord) (index : BitVec 16)
        (first : Byte) (data : BitVec 128) : Prop :=
      exec .snapTake s = .next { s.executed c rest i x (s.replyCell c
          { status := .ok, arg := code + (first <<< 2) + (if clear then 0x10#8 else 0#8), count := BitVec.ofNat 8 records.length
            index := index, data := data }) with
        counters := { after with snapshot := { records := records, source := some source, owner := some i } } }
    let coded := c.arg &&& 0xEC#8 = 0 ∧ c.arg &&& 3 ≠ 3
    let first := c.index.toNat
    let ranges := c.arg &&& 3 = 0 → first ≤ 255 ∧ (1 ≤ c.count.toNat ∧ c.count.toNat ≤ 32) ∧ first + c.count.toNat ≤ 256
    let mine := ∀ j, s.counters.snapshot.owner = some j → j = i
    (¬ coded ∨ ¬ ranges → refused { status := .badParam })
    ∧ (∀ j, coded → ranges → s.counters.snapshot.owner = some j → j ≠ i →
        refused { status := .busy, data := dataWords ((nodeField (s.managerOf j)).setWidth 32) 0 0 0 })
    ∧ (coded → ranges → mine → c.arg &&& 3 = 0 →
        let record (k : Nat) : SnapRecord :=
          let n := Fin.ofNat 256 (first + k)
          let live := (s.streams.get n).state ≠ .free
          let v := s.counters.streams.get n
          { object := n.val, entryState := some (s.streams.get n).state
            word0 := if live then v.arrived else 0, word1 := if live then v.marked else 0
            word2 := if live then v.discardedPolice else 0, word3 := if live then v.discardedOther else 0 }
        ∃ after : Table StreamCounters 256,
          (∀ n : Fin 256, after.get n = if clear ∧ first ≤ n.val ∧ n.val < first + c.count.toNat then .zero
            else s.counters.streams.get n)
          ∧ taken { z with streams := after } .streams 0 ((List.range c.count.toNat).map record) c.index
              (entryStateCode (s.streams.get (Fin.ofNat 256 first)).state)
              (dataWords (record 0).word0 (record 0).word1 (record 0).word2 (record 0).word3))
    ∧ (coded → mine → c.arg &&& 3 = 1 →
        let record (q : Fin 8) : SnapRecord :=
          let v := s.counters.queues.get q
          { object := q.val, entryState := none, word0 := v.enqueued, word1 := v.sent, word2 := v.discardedFull
            word3 := v.discardedDe }
        taken { z with queues := if clear then Table.fill 8 .zero else s.counters.queues } .queues 1
          ((List.finRange 8).map record) 0 0
          (dataWords (record 0).word0 (record 0).word1 (record 0).word2 (record 0).word3))
    ∧ (coded → mine → c.arg &&& 3 = 2 →
        let record (k : Fin 4) : SnapRecord :=
          let v (j : Nat) : Word := z.device.get (Fin.ofNat 16 (4 * k.val + j))
          { object := k.val, entryState := none, word0 := v 0, word1 := v 1, word2 := v 2, word3 := v 3 }
        taken { z with device := if clear then Table.fill 16 0 else z.device } .device 2 ((List.finRange 4).map record) 0 0
          (dataWords (record 0).word0 (record 0).word1 (record 0).word2 (record 0).word3))

/-- R157, R158, section 10.4: SNAP-READ returns a record to the owner of the snapshot alone, and SNAP-RELEASE empties the buffer for its owner. -/
def Obligations.SnapReadAndRelease : Prop :=
  ∀ (s : State) (c : Control) (rest : List ControlCell) (i : Fin 4) (x : Session), s.Accepts c rest i x →
    let b := s.counters.snapshot
    let answers (cmd : Instr) (t : State) (r : Reply) : Prop := exec cmd s = .next (t.executed c rest i x (s.replyCell c r))
    (Op.ofCode c.op = some .snapRead → b.owner ≠ some i ∨ b.records = [] → answers .snapRead s { status := .noSnapshot })
    ∧ (Op.ofCode c.op = some .snapRead → b.owner = some i → b.records ≠ [] → b.records.length ≤ c.index.toNat →
        answers .snapRead s { status := .badParam })
    ∧ (∀ r source, Op.ofCode c.op = some .snapRead → b.owner = some i → b.records[c.index.toNat]? = some r → b.source = some source →
        answers .snapRead s
          { status := .ok
            arg := (match source with | .streams => 0#8 | .queues => 1#8 | .device => 2#8 : Byte)
              ||| ((match r.entryState with | some e => entryStateCode e | none => 0#8 : Byte) <<< 4)
            index := BitVec.ofNat 16 r.object, count := BitVec.ofNat 8 b.records.length
            data := dataWords r.word0 r.word1 r.word2 r.word3 })
    ∧ (Op.ofCode c.op = some .snapRelease → b.owner = none → answers .snapRelease s { status := .ok, arg := 2 })
    ∧ (Op.ofCode c.op = some .snapRelease → b.owner = some i →
        answers .snapRelease
          { s with counters := { s.counters with snapshot := { records := [], source := none, owner := none } } }
          { status := .ok, arg := 1 })
    ∧ ∀ j, Op.ofCode c.op = some .snapRelease → b.owner = some j → j ≠ i →
        answers .snapRelease s { status := .busy, data := dataWords ((nodeField (s.managerOf j)).setWidth 32) 0 0 0 }

/-- R173, R174, sections 10.4 and 10.5: EVENT-READ and EVENT-CLEAR. -/
def Obligations.EventReadAndClear : Prop :=
  ∀ (s : State) (c : Control) (rest : List ControlCell) (i : Fin 4) (x : Session), s.Accepts c rest i x →
    let answers (cmd : Instr) (t : State) (r : Reply) : Prop := exec cmd s = .next (t.executed c rest i x (s.replyCell c r))
    let u := s.events
    (Op.ofCode c.op = some .eventRead → answers .eventRead s
        { status := .ok
          data := dataWords
            (0#2 ++ s.settings.reportMask ++ 0#2 ++ u.flags)
            (0#2 ++ u.renewed ++ 0#2 ++ u.carried)
            (reportStateCode u.reportState ++ u.number ++ BitVec.ofNat 8 u.retriesLeft
              ++ (match u.timer with | some n => BitVec.ofNat 8 n | none => 0#8))
            ((if u.store.isSome then 2 else 0) + if u.timer.isSome then 1 else 0) })
    ∧ (Op.ofCode c.op = some .eventClear → 2 ^ 14 ≤ (c.word 0).toNat → answers .eventClear s { status := .badParam })
    ∧ (Op.ofCode c.op = some .eventClear → (c.word 0).toNat < 2 ^ 14 →
        let after := u.flags &&& ~~~((c.word 0).setWidth 14)
        answers .eventClear { s with events := { u with flags := after } }
          { status := .ok, data := dataWords (u.flags.setWidth 32) (after.setWidth 32) 0 0 })

/-- R171, R172, sections 10.4 and 10.5: REPORT-ACK and REPORT-REARM, from the report target and from another node. The flags
cleared that DATA word 0 shows are the carried ones less the renewed, one that was already clear among them (the model's choice, log entry 14). -/
def Obligations.ReportAckAndRearm : Prop :=
  ∀ (s : State) (c : Control) (rest : List ControlCell) (i : Fin 4) (x : Session), s.Accepts c rest i x →
    let answers (cmd : Instr) (t : State) (r : Reply) : Prop := exec cmd s = .next (t.executed c rest i x (s.replyCell c r))
    let u := s.events
    let target := s.settings.reportTarget = some x.manager
    let ended (flags : BitVec 14) : State := { s with events := { u with
      flags := flags, reportState := .idle, carried := 0, renewed := 0, retriesLeft := s.settings.reportRetries, timer := none
      store := none, present := none } }
    let cleared := u.carried &&& ~~~u.renewed
    let ack := Op.ofCode c.op = some .reportAck
    let rearm := Op.ofCode c.op = some .reportRearm
    (ack → ¬ target → answers .reportAck s { status := .notTarget })
    ∧ (ack → target → 255 < c.index.toNat → answers .reportAck s { status := .badParam })
    ∧ (ack → target → c.index.toNat ≤ 255 → c.index.toNat ≠ u.number.toNat →
        answers .reportAck s
          { status := .stale, data := dataWords (0#16 ++ reportStateCode u.reportState ++ u.number) 0 0 0 })
    ∧ (ack → target → c.index.toNat = u.number.toNat → u.reportState = .idle →
        answers .reportAck s { status := .ok, arg := 2 })
    ∧ (ack → target → c.index.toNat = u.number.toNat → u.reportState ≠ .idle →
        answers .reportAck (ended (u.flags &&& ~~~cleared))
          { status := .ok, arg := 1
            data := dataWords (cleared.setWidth 32) ((u.flags &&& ~~~cleared).setWidth 32) 0 0 })
    ∧ (rearm → ¬ target → answers .reportRearm s { status := .notTarget })
    ∧ (rearm → target → u.reportState = .down → answers .reportRearm (ended u.flags) { status := .ok, arg := 1 })
    ∧ (rearm → target → u.reportState ≠ .down → answers .reportRearm s { status := .ok, arg := 2 })

/-! ### Layouts -/

/-- R94, R103, R111, R178, R179: the layouts read back what they were made of, with a good check; a cell of eight local port words has those
words; and a single wrong bit makes a header bad. -/
def Obligations.LayoutsReadBack : Prop :=
  (∀ h : Header, Header.ofWord h.toWord = h ∧ goodHeader h.toWord = true)
    ∧ (∀ c : Control, Control.ofPayload c.toPayload = c ∧ goodPayload c.toPayload = true)
    ∧ (∀ w : Word, goodHeader w = true → (Header.ofWord w).toWord = w)
    ∧ (∀ p : Payload, goodPayload p = true → (Control.ofPayload p).toPayload = p)
    ∧ (∀ c : RawCell, RawCell.ofWords ((List.range 8).map c.word) = c)
    ∧ (∀ w0 w1 w2 w3 w4 w5 w6 w7 : Word,
        (List.range 8).map (RawCell.ofWords [w0, w1, w2, w3, w4, w5, w6, w7]).word = [w0, w1, w2, w3, w4, w5, w6, w7])
    ∧ (∀ p : Payload, Control.ofPayload (retransmitted p)
        = { Control.ofPayload p with flags := (Control.ofPayload p).flags ||| 0x20#8 } ∧ goodPayload (retransmitted p) = true)
    ∧ ∀ (w : Word) (k : Nat), k < 32 → goodHeader w = true → goodHeader (w ^^^ (1#32 <<< k)) = false

/-- Section 10.4, R180: the records a READ returns are the records a write command takes: STREAM-ADD and STREAM-SET read back the fields of
STREAM-READ, METER-SET those of METER-READ, QUEUE-SET those of QUEUE-READ, and CAL-WRITE the bytes of CAL-READ; the fields that stand in a reply
alone are at their places; and a field is refused exactly where its code is ill-coded or out of range. -/
def Obligations.RecordsReadBack : Prop :=
  let bits (d : BitVec 128) (n lo len : Nat) : Nat := (d.extractLsb' ((3 - n) * 32 + lo) len).toNat
  (∀ (c : Control) (e : StreamEntry), c.data = streamRecord e → e.addHop ≠ 0 →
      (streamFields c).label = e.label ∧ (streamFields c).action = some e.action ∧ (streamFields c).queue = some e.queue
        ∧ (streamFields c).meter = some e.meter ∧ (streamFields c).onExceed = some e.onExceed
        ∧ (streamFields c).addAllowed = some e.addAllowed ∧ (streamFields c).addHop = some e.addHop)
    ∧ (∀ (c : Control) (m : Meter), c.data = meterRecord m → m.InRange →
        (meterFields c).limit = some m.limit ∧ (meterFields c).increment = some m.increment
          ∧ (meterFields c).period = some m.period ∧ (meterFields c).source = some m.source
          ∧ (meterFields c).partner = some m.partner)
    ∧ (∀ (c : Control) (limit deThreshold depth : Nat) (fill : Bool) (w : Word), limit ≤ 512 → deThreshold ≤ 512 →
        c.data = queueRecord limit deThreshold fill depth w →
        (queueFields c).limit = limit ∧ (queueFields c).deThreshold = deThreshold ∧ (queueFields c).fill = some fill)
    ∧ (∀ e : CalEntry, decodeCalEntry (calEntryByte e) = some e)
    ∧ (∀ e : StreamEntry, e.queued ≤ 512 → let d := streamRecord e
        bits d 0 28 4 = 0
          ∧ bits d 0 8 8 = (match e.state with | .free => 0 | .active => 1 | .retiring => 2)
          ∧ bits d 2 16 8 = (if e.purge then 1 else 0) ∧ bits d 2 0 16 = e.queued ∧ bits d 3 0 32 = 0)
    ∧ (∀ m : Meter, m.credit ≤ 65535 → m.counter ≤ 65535 → m.named ≤ 127 → let d := meterRecord m
        bits d 1 0 16 = m.counter ∧ bits d 2 28 2 = 0 ∧ bits d 2 0 8 = (if m.running then 0 else 1)
          ∧ bits d 3 16 16 = m.credit ∧ bits d 3 0 16 = m.named)
    ∧ (∀ (limit deThreshold depth : Nat) (fill : Bool) (w : Word), depth ≤ 512 → let d := queueRecord limit deThreshold fill depth w
        bits d 1 16 8 = 0 ∧ bits d 1 0 16 = depth ∧ bits d 2 0 32 = w.toNat ∧ bits d 3 0 32 = 0)
    ∧ (∀ c : Control, let f := streamFields c
        (f.action = none ↔ 3 < bits c.data 0 0 8) ∧ (f.queue = none ↔ 7 < bits c.data 1 24 8)
          ∧ (f.meter = none ↔ 0x80 ≤ bits c.data 1 16 8 ∧ bits c.data 1 16 8 ≤ 0xFE) ∧ (f.onExceed = none ↔ 1 < bits c.data 1 8 8)
          ∧ (f.addAllowed = none ↔ 1 < bits c.data 1 0 8) ∧ (f.addHop = none ↔ bits c.data 2 24 8 = 0 ∨ 15 < bits c.data 2 24 8))
    ∧ (∀ c : Control, let f := meterFields c
        let kind := bits c.data 2 30 2
        let parameter := bits c.data 2 16 12
        (f.limit = none ↔ bits c.data 0 16 16 = 0) ∧ (f.increment = none ↔ bits c.data 0 0 16 = 0)
          ∧ (f.period = none ↔ bits c.data 1 16 16 = 0)
          ∧ (f.source = none ↔ kind = 3 ∨ (kind = 0 ∧ parameter ≠ 1 ∧ parameter ≠ 8 ∧ parameter ≠ 64 ∧ parameter ≠ 512)
              ∨ (kind = 2 ∧ 127 < parameter))
          ∧ (f.partner = none ↔ 0x80 ≤ bits c.data 2 8 8 ∧ bits c.data 2 8 8 ≤ 0xFE))
    ∧ (∀ c : Control, (queueFields c).fill = none ↔ 1 < bits c.data 1 24 8)
    ∧ ∀ b : Byte, decodeCalEntry b = none ↔ b.toNat < 64

/-! ### The laws of the manual -/

/-- The state after reset satisfies the laws of the manual that are laws of a state (L1 to L9, L11 and L12; L10 is one of a slot, and stands in
`FixedSlotKeepsItsQueue`), and every range. -/
def Obligations.ResetIsLawful : Prop := State.reset.Lawful

/-- Laws L1 and L2 (R51, R55): from every state in which the 512 buffers are accounted for and no queue is over its limit, every step leaves
them so. -/
def Obligations.PoolLawsKept : Prop :=
  ∀ s t : State, s.LawL1 → s.LawL2 → step s = .next t → t.LawL1 ∧ t.LawL2

/-- Laws L3, L4 and L11 (R2, R16, R18, R22), with R56 and R1: from every state in which labels are unique, queued counts are right, queued cells
stand in their stream's queue with a hop to spend, and add-hops are 1..15, every step leaves them so. -/
def Obligations.StreamLawsKept : Prop :=
  ∀ s t : State, s.LawL3 → s.LawL4 → s.LawL11 → s.QueuedCellsForwardable → s.StreamsInRange → step s = .next t →
    t.LawL3 ∧ t.LawL4 ∧ t.LawL11 ∧ t.QueuedCellsForwardable ∧ t.StreamsInRange

/-- Laws L5 and L6 (R27, R38), and the ranges of R27: from every state in which each meter's credit and counter are within its bounds, cascades
run downward, no partner has a partner, and named counts are right, every step leaves them so. -/
def Obligations.MeterLawsKept : Prop :=
  ∀ s t : State, s.LawL5 → s.LawL6 → (∀ m, (s.meter m).InRange) → step s = .next t →
    t.LawL5 ∧ t.LawL6 ∧ ∀ m, (t.meter m).InRange

/-- Laws L7, L8, L9 and L12 (R74, R129, R153, R163), and R170: from every state in which they hold, every step leaves them so. -/
def Obligations.SessionCalendarReportLawsKept : Prop :=
  ∀ s t : State, s.LawL7 → s.LawL8 → s.LawL9 → s.LawL12 → s.RenewedCarried → step s = .next t →
    t.LawL7 ∧ t.LawL8 ∧ t.LawL9 ∧ t.LawL12 ∧ t.RenewedCarried

/-- R95, R97, R98, R112, R118, R125, R127, R129, R142, R146, R163: from every state in which intake, the control egress queue, staging, the
delivery position, the restart mark, the runs of the receiver, the settings and the timers are within their bounds, every step leaves them
so. -/
def Obligations.BlockBoundsKept : Prop :=
  ∀ s t : State, s.EngineOk → s.PortOk → s.ReceiverOk → s.Ranges → step s = .next t →
    t.EngineOk ∧ t.PortOk ∧ t.ReceiverOk ∧ t.Ranges

end Statements
end

