-- ==== Sys2Proof/Laws/State.lean ====
section
/-! SUPPORT. What each basic update of the state leaves as it was, one lemma for each field, and what it writes. -/

namespace Sys2Proof.Machine

/-! `countDevice` -/

@[simp] theorem State.countDevice_resetHeld (s : State) (c : DeviceCounter) : (s.countDevice c).resetHeld = s.resetHeld := rfl
@[simp] theorem State.countDevice_nodeAddress (s : State) (c : DeviceCounter) : (s.countDevice c).nodeAddress = s.nodeAddress := rfl
@[simp] theorem State.countDevice_rx (s : State) (c : DeviceCounter) : (s.countDevice c).rx = s.rx := rfl
@[simp] theorem State.countDevice_streams (s : State) (c : DeviceCounter) : (s.countDevice c).streams = s.streams := rfl
@[simp] theorem State.countDevice_bank (s : State) (c : DeviceCounter) : (s.countDevice c).bank = s.bank := rfl
@[simp] theorem State.countDevice_pool (s : State) (c : DeviceCounter) : (s.countDevice c).pool = s.pool := rfl
@[simp] theorem State.countDevice_cal (s : State) (c : DeviceCounter) : (s.countDevice c).cal = s.cal := rfl
@[simp] theorem State.countDevice_tx (s : State) (c : DeviceCounter) : (s.countDevice c).tx = s.tx := rfl
@[simp] theorem State.countDevice_port (s : State) (c : DeviceCounter) : (s.countDevice c).port = s.port := rfl
@[simp] theorem State.countDevice_engine (s : State) (c : DeviceCounter) : (s.countDevice c).engine = s.engine := rfl
@[simp] theorem State.countDevice_sess (s : State) (c : DeviceCounter) : (s.countDevice c).sess = s.sess := rfl
@[simp] theorem State.countDevice_settings (s : State) (c : DeviceCounter) : (s.countDevice c).settings = s.settings := rfl
@[simp] theorem State.countDevice_events (s : State) (c : DeviceCounter) : (s.countDevice c).events = s.events := rfl
@[simp] theorem State.countDevice_handover (s : State) (c : DeviceCounter) : (s.countDevice c).handover = s.handover := rfl
@[simp] theorem State.countDevice_pending (s : State) (c : DeviceCounter) : (s.countDevice c).pending = s.pending := rfl

/-! `countStream` -/

@[simp] theorem State.countStream_resetHeld (s : State) (i : Fin 256) (c : StreamCounter) : (s.countStream i c).resetHeld = s.resetHeld := rfl
@[simp] theorem State.countStream_nodeAddress (s : State) (i : Fin 256) (c : StreamCounter) : (s.countStream i c).nodeAddress = s.nodeAddress := rfl
@[simp] theorem State.countStream_rx (s : State) (i : Fin 256) (c : StreamCounter) : (s.countStream i c).rx = s.rx := rfl
@[simp] theorem State.countStream_streams (s : State) (i : Fin 256) (c : StreamCounter) : (s.countStream i c).streams = s.streams := rfl
@[simp] theorem State.countStream_bank (s : State) (i : Fin 256) (c : StreamCounter) : (s.countStream i c).bank = s.bank := rfl
@[simp] theorem State.countStream_pool (s : State) (i : Fin 256) (c : StreamCounter) : (s.countStream i c).pool = s.pool := rfl
@[simp] theorem State.countStream_cal (s : State) (i : Fin 256) (c : StreamCounter) : (s.countStream i c).cal = s.cal := rfl
@[simp] theorem State.countStream_tx (s : State) (i : Fin 256) (c : StreamCounter) : (s.countStream i c).tx = s.tx := rfl
@[simp] theorem State.countStream_port (s : State) (i : Fin 256) (c : StreamCounter) : (s.countStream i c).port = s.port := rfl
@[simp] theorem State.countStream_engine (s : State) (i : Fin 256) (c : StreamCounter) : (s.countStream i c).engine = s.engine := rfl
@[simp] theorem State.countStream_sess (s : State) (i : Fin 256) (c : StreamCounter) : (s.countStream i c).sess = s.sess := rfl
@[simp] theorem State.countStream_settings (s : State) (i : Fin 256) (c : StreamCounter) : (s.countStream i c).settings = s.settings := rfl
@[simp] theorem State.countStream_events (s : State) (i : Fin 256) (c : StreamCounter) : (s.countStream i c).events = s.events := rfl
@[simp] theorem State.countStream_handover (s : State) (i : Fin 256) (c : StreamCounter) : (s.countStream i c).handover = s.handover := rfl
@[simp] theorem State.countStream_pending (s : State) (i : Fin 256) (c : StreamCounter) : (s.countStream i c).pending = s.pending := rfl

/-! `countQueue` -/

@[simp] theorem State.countQueue_resetHeld (s : State) (q : Fin 8) (c : QueueCounter) : (s.countQueue q c).resetHeld = s.resetHeld := rfl
@[simp] theorem State.countQueue_nodeAddress (s : State) (q : Fin 8) (c : QueueCounter) : (s.countQueue q c).nodeAddress = s.nodeAddress := rfl
@[simp] theorem State.countQueue_rx (s : State) (q : Fin 8) (c : QueueCounter) : (s.countQueue q c).rx = s.rx := rfl
@[simp] theorem State.countQueue_streams (s : State) (q : Fin 8) (c : QueueCounter) : (s.countQueue q c).streams = s.streams := rfl
@[simp] theorem State.countQueue_bank (s : State) (q : Fin 8) (c : QueueCounter) : (s.countQueue q c).bank = s.bank := rfl
@[simp] theorem State.countQueue_pool (s : State) (q : Fin 8) (c : QueueCounter) : (s.countQueue q c).pool = s.pool := rfl
@[simp] theorem State.countQueue_cal (s : State) (q : Fin 8) (c : QueueCounter) : (s.countQueue q c).cal = s.cal := rfl
@[simp] theorem State.countQueue_tx (s : State) (q : Fin 8) (c : QueueCounter) : (s.countQueue q c).tx = s.tx := rfl
@[simp] theorem State.countQueue_port (s : State) (q : Fin 8) (c : QueueCounter) : (s.countQueue q c).port = s.port := rfl
@[simp] theorem State.countQueue_engine (s : State) (q : Fin 8) (c : QueueCounter) : (s.countQueue q c).engine = s.engine := rfl
@[simp] theorem State.countQueue_sess (s : State) (q : Fin 8) (c : QueueCounter) : (s.countQueue q c).sess = s.sess := rfl
@[simp] theorem State.countQueue_settings (s : State) (q : Fin 8) (c : QueueCounter) : (s.countQueue q c).settings = s.settings := rfl
@[simp] theorem State.countQueue_events (s : State) (q : Fin 8) (c : QueueCounter) : (s.countQueue q c).events = s.events := rfl
@[simp] theorem State.countQueue_handover (s : State) (q : Fin 8) (c : QueueCounter) : (s.countQueue q c).handover = s.handover := rfl
@[simp] theorem State.countQueue_pending (s : State) (q : Fin 8) (c : QueueCounter) : (s.countQueue q c).pending = s.pending := rfl

/-! `setStream` -/

@[simp] theorem State.setStream_resetHeld (s : State) (i : Fin 256) (e : StreamEntry) : (s.setStream i e).resetHeld = s.resetHeld := rfl
@[simp] theorem State.setStream_nodeAddress (s : State) (i : Fin 256) (e : StreamEntry) : (s.setStream i e).nodeAddress = s.nodeAddress := rfl
@[simp] theorem State.setStream_rx (s : State) (i : Fin 256) (e : StreamEntry) : (s.setStream i e).rx = s.rx := rfl
@[simp] theorem State.setStream_bank (s : State) (i : Fin 256) (e : StreamEntry) : (s.setStream i e).bank = s.bank := rfl
@[simp] theorem State.setStream_pool (s : State) (i : Fin 256) (e : StreamEntry) : (s.setStream i e).pool = s.pool := rfl
@[simp] theorem State.setStream_cal (s : State) (i : Fin 256) (e : StreamEntry) : (s.setStream i e).cal = s.cal := rfl
@[simp] theorem State.setStream_tx (s : State) (i : Fin 256) (e : StreamEntry) : (s.setStream i e).tx = s.tx := rfl
@[simp] theorem State.setStream_port (s : State) (i : Fin 256) (e : StreamEntry) : (s.setStream i e).port = s.port := rfl
@[simp] theorem State.setStream_engine (s : State) (i : Fin 256) (e : StreamEntry) : (s.setStream i e).engine = s.engine := rfl
@[simp] theorem State.setStream_sess (s : State) (i : Fin 256) (e : StreamEntry) : (s.setStream i e).sess = s.sess := rfl
@[simp] theorem State.setStream_settings (s : State) (i : Fin 256) (e : StreamEntry) : (s.setStream i e).settings = s.settings := rfl
@[simp] theorem State.setStream_counters (s : State) (i : Fin 256) (e : StreamEntry) : (s.setStream i e).counters = s.counters := rfl
@[simp] theorem State.setStream_events (s : State) (i : Fin 256) (e : StreamEntry) : (s.setStream i e).events = s.events := rfl
@[simp] theorem State.setStream_handover (s : State) (i : Fin 256) (e : StreamEntry) : (s.setStream i e).handover = s.handover := rfl
@[simp] theorem State.setStream_pending (s : State) (i : Fin 256) (e : StreamEntry) : (s.setStream i e).pending = s.pending := rfl

/-! `setMeter` -/

@[simp] theorem State.setMeter_resetHeld (s : State) (m : Fin 128) (x : Meter) : (s.setMeter m x).resetHeld = s.resetHeld := rfl
@[simp] theorem State.setMeter_nodeAddress (s : State) (m : Fin 128) (x : Meter) : (s.setMeter m x).nodeAddress = s.nodeAddress := rfl
@[simp] theorem State.setMeter_rx (s : State) (m : Fin 128) (x : Meter) : (s.setMeter m x).rx = s.rx := rfl
@[simp] theorem State.setMeter_streams (s : State) (m : Fin 128) (x : Meter) : (s.setMeter m x).streams = s.streams := rfl
@[simp] theorem State.setMeter_pool (s : State) (m : Fin 128) (x : Meter) : (s.setMeter m x).pool = s.pool := rfl
@[simp] theorem State.setMeter_cal (s : State) (m : Fin 128) (x : Meter) : (s.setMeter m x).cal = s.cal := rfl
@[simp] theorem State.setMeter_tx (s : State) (m : Fin 128) (x : Meter) : (s.setMeter m x).tx = s.tx := rfl
@[simp] theorem State.setMeter_port (s : State) (m : Fin 128) (x : Meter) : (s.setMeter m x).port = s.port := rfl
@[simp] theorem State.setMeter_engine (s : State) (m : Fin 128) (x : Meter) : (s.setMeter m x).engine = s.engine := rfl
@[simp] theorem State.setMeter_sess (s : State) (m : Fin 128) (x : Meter) : (s.setMeter m x).sess = s.sess := rfl
@[simp] theorem State.setMeter_settings (s : State) (m : Fin 128) (x : Meter) : (s.setMeter m x).settings = s.settings := rfl
@[simp] theorem State.setMeter_counters (s : State) (m : Fin 128) (x : Meter) : (s.setMeter m x).counters = s.counters := rfl
@[simp] theorem State.setMeter_events (s : State) (m : Fin 128) (x : Meter) : (s.setMeter m x).events = s.events := rfl
@[simp] theorem State.setMeter_handover (s : State) (m : Fin 128) (x : Meter) : (s.setMeter m x).handover = s.handover := rfl
@[simp] theorem State.setMeter_pending (s : State) (m : Fin 128) (x : Meter) : (s.setMeter m x).pending = s.pending := rfl

/-! `setQueue` -/

@[simp] theorem State.setQueue_resetHeld (s : State) (q : Fin 8) (x : EgressQueue) : (s.setQueue q x).resetHeld = s.resetHeld := rfl
@[simp] theorem State.setQueue_nodeAddress (s : State) (q : Fin 8) (x : EgressQueue) : (s.setQueue q x).nodeAddress = s.nodeAddress := rfl
@[simp] theorem State.setQueue_rx (s : State) (q : Fin 8) (x : EgressQueue) : (s.setQueue q x).rx = s.rx := rfl
@[simp] theorem State.setQueue_streams (s : State) (q : Fin 8) (x : EgressQueue) : (s.setQueue q x).streams = s.streams := rfl
@[simp] theorem State.setQueue_bank (s : State) (q : Fin 8) (x : EgressQueue) : (s.setQueue q x).bank = s.bank := rfl
@[simp] theorem State.setQueue_cal (s : State) (q : Fin 8) (x : EgressQueue) : (s.setQueue q x).cal = s.cal := rfl
@[simp] theorem State.setQueue_tx (s : State) (q : Fin 8) (x : EgressQueue) : (s.setQueue q x).tx = s.tx := rfl
@[simp] theorem State.setQueue_port (s : State) (q : Fin 8) (x : EgressQueue) : (s.setQueue q x).port = s.port := rfl
@[simp] theorem State.setQueue_engine (s : State) (q : Fin 8) (x : EgressQueue) : (s.setQueue q x).engine = s.engine := rfl
@[simp] theorem State.setQueue_sess (s : State) (q : Fin 8) (x : EgressQueue) : (s.setQueue q x).sess = s.sess := rfl
@[simp] theorem State.setQueue_settings (s : State) (q : Fin 8) (x : EgressQueue) : (s.setQueue q x).settings = s.settings := rfl
@[simp] theorem State.setQueue_counters (s : State) (q : Fin 8) (x : EgressQueue) : (s.setQueue q x).counters = s.counters := rfl
@[simp] theorem State.setQueue_events (s : State) (q : Fin 8) (x : EgressQueue) : (s.setQueue q x).events = s.events := rfl
@[simp] theorem State.setQueue_handover (s : State) (q : Fin 8) (x : EgressQueue) : (s.setQueue q x).handover = s.handover := rfl
@[simp] theorem State.setQueue_pending (s : State) (q : Fin 8) (x : EgressQueue) : (s.setQueue q x).pending = s.pending := rfl

/-! `takeBuffer` -/

@[simp] theorem State.takeBuffer_resetHeld (s : State) : (s.takeBuffer).resetHeld = s.resetHeld := rfl
@[simp] theorem State.takeBuffer_nodeAddress (s : State) : (s.takeBuffer).nodeAddress = s.nodeAddress := rfl
@[simp] theorem State.takeBuffer_rx (s : State) : (s.takeBuffer).rx = s.rx := rfl
@[simp] theorem State.takeBuffer_streams (s : State) : (s.takeBuffer).streams = s.streams := rfl
@[simp] theorem State.takeBuffer_bank (s : State) : (s.takeBuffer).bank = s.bank := rfl
@[simp] theorem State.takeBuffer_cal (s : State) : (s.takeBuffer).cal = s.cal := rfl
@[simp] theorem State.takeBuffer_tx (s : State) : (s.takeBuffer).tx = s.tx := rfl
@[simp] theorem State.takeBuffer_port (s : State) : (s.takeBuffer).port = s.port := rfl
@[simp] theorem State.takeBuffer_engine (s : State) : (s.takeBuffer).engine = s.engine := rfl
@[simp] theorem State.takeBuffer_sess (s : State) : (s.takeBuffer).sess = s.sess := rfl
@[simp] theorem State.takeBuffer_settings (s : State) : (s.takeBuffer).settings = s.settings := rfl
@[simp] theorem State.takeBuffer_counters (s : State) : (s.takeBuffer).counters = s.counters := rfl
@[simp] theorem State.takeBuffer_events (s : State) : (s.takeBuffer).events = s.events := rfl
@[simp] theorem State.takeBuffer_handover (s : State) : (s.takeBuffer).handover = s.handover := rfl
@[simp] theorem State.takeBuffer_pending (s : State) : (s.takeBuffer).pending = s.pending := rfl

/-! `returnBuffer` -/

@[simp] theorem State.returnBuffer_resetHeld (s : State) : (s.returnBuffer).resetHeld = s.resetHeld := rfl
@[simp] theorem State.returnBuffer_nodeAddress (s : State) : (s.returnBuffer).nodeAddress = s.nodeAddress := rfl
@[simp] theorem State.returnBuffer_rx (s : State) : (s.returnBuffer).rx = s.rx := rfl
@[simp] theorem State.returnBuffer_streams (s : State) : (s.returnBuffer).streams = s.streams := rfl
@[simp] theorem State.returnBuffer_bank (s : State) : (s.returnBuffer).bank = s.bank := rfl
@[simp] theorem State.returnBuffer_cal (s : State) : (s.returnBuffer).cal = s.cal := rfl
@[simp] theorem State.returnBuffer_tx (s : State) : (s.returnBuffer).tx = s.tx := rfl
@[simp] theorem State.returnBuffer_port (s : State) : (s.returnBuffer).port = s.port := rfl
@[simp] theorem State.returnBuffer_engine (s : State) : (s.returnBuffer).engine = s.engine := rfl
@[simp] theorem State.returnBuffer_sess (s : State) : (s.returnBuffer).sess = s.sess := rfl
@[simp] theorem State.returnBuffer_settings (s : State) : (s.returnBuffer).settings = s.settings := rfl
@[simp] theorem State.returnBuffer_counters (s : State) : (s.returnBuffer).counters = s.counters := rfl
@[simp] theorem State.returnBuffer_events (s : State) : (s.returnBuffer).events = s.events := rfl
@[simp] theorem State.returnBuffer_handover (s : State) : (s.returnBuffer).handover = s.handover := rfl
@[simp] theorem State.returnBuffer_pending (s : State) : (s.returnBuffer).pending = s.pending := rfl

/-! `portEdge` -/

@[simp] theorem State.portEdge_resetHeld (s : State) : (s.portEdge).resetHeld = s.resetHeld := rfl
@[simp] theorem State.portEdge_nodeAddress (s : State) : (s.portEdge).nodeAddress = s.nodeAddress := rfl
@[simp] theorem State.portEdge_rx (s : State) : (s.portEdge).rx = s.rx := rfl
@[simp] theorem State.portEdge_streams (s : State) : (s.portEdge).streams = s.streams := rfl
@[simp] theorem State.portEdge_bank (s : State) : (s.portEdge).bank = s.bank := rfl
@[simp] theorem State.portEdge_pool (s : State) : (s.portEdge).pool = s.pool := rfl
@[simp] theorem State.portEdge_cal (s : State) : (s.portEdge).cal = s.cal := rfl
@[simp] theorem State.portEdge_tx (s : State) : (s.portEdge).tx = s.tx := rfl
@[simp] theorem State.portEdge_engine (s : State) : (s.portEdge).engine = s.engine := rfl
@[simp] theorem State.portEdge_sess (s : State) : (s.portEdge).sess = s.sess := rfl
@[simp] theorem State.portEdge_settings (s : State) : (s.portEdge).settings = s.settings := rfl
@[simp] theorem State.portEdge_counters (s : State) : (s.portEdge).counters = s.counters := rfl
@[simp] theorem State.portEdge_events (s : State) : (s.portEdge).events = s.events := rfl
@[simp] theorem State.portEdge_handover (s : State) : (s.portEdge).handover = s.handover := rfl
@[simp] theorem State.portEdge_pending (s : State) : (s.portEdge).pending = s.pending := rfl

/-! `joinEgress` -/

@[simp] theorem State.joinEgress_resetHeld (s : State) (c : EgressCell) : (s.joinEgress c).resetHeld = s.resetHeld := rfl
@[simp] theorem State.joinEgress_nodeAddress (s : State) (c : EgressCell) : (s.joinEgress c).nodeAddress = s.nodeAddress := rfl
@[simp] theorem State.joinEgress_rx (s : State) (c : EgressCell) : (s.joinEgress c).rx = s.rx := rfl
@[simp] theorem State.joinEgress_streams (s : State) (c : EgressCell) : (s.joinEgress c).streams = s.streams := rfl
@[simp] theorem State.joinEgress_bank (s : State) (c : EgressCell) : (s.joinEgress c).bank = s.bank := rfl
@[simp] theorem State.joinEgress_pool (s : State) (c : EgressCell) : (s.joinEgress c).pool = s.pool := rfl
@[simp] theorem State.joinEgress_cal (s : State) (c : EgressCell) : (s.joinEgress c).cal = s.cal := rfl
@[simp] theorem State.joinEgress_tx (s : State) (c : EgressCell) : (s.joinEgress c).tx = s.tx := rfl
@[simp] theorem State.joinEgress_port (s : State) (c : EgressCell) : (s.joinEgress c).port = s.port := rfl
@[simp] theorem State.joinEgress_sess (s : State) (c : EgressCell) : (s.joinEgress c).sess = s.sess := rfl
@[simp] theorem State.joinEgress_settings (s : State) (c : EgressCell) : (s.joinEgress c).settings = s.settings := rfl
@[simp] theorem State.joinEgress_counters (s : State) (c : EgressCell) : (s.joinEgress c).counters = s.counters := rfl
@[simp] theorem State.joinEgress_events (s : State) (c : EgressCell) : (s.joinEgress c).events = s.events := rfl
@[simp] theorem State.joinEgress_handover (s : State) (c : EgressCell) : (s.joinEgress c).handover = s.handover := rfl
@[simp] theorem State.joinEgress_pending (s : State) (c : EgressCell) : (s.joinEgress c).pending = s.pending := rfl

/-! `setSession` -/

@[simp] theorem State.setSession_resetHeld (s : State) (i : Fin 4) (x : Option Session) : (s.setSession i x).resetHeld = s.resetHeld := rfl
@[simp] theorem State.setSession_nodeAddress (s : State) (i : Fin 4) (x : Option Session) : (s.setSession i x).nodeAddress = s.nodeAddress := rfl
@[simp] theorem State.setSession_rx (s : State) (i : Fin 4) (x : Option Session) : (s.setSession i x).rx = s.rx := rfl
@[simp] theorem State.setSession_streams (s : State) (i : Fin 4) (x : Option Session) : (s.setSession i x).streams = s.streams := rfl
@[simp] theorem State.setSession_bank (s : State) (i : Fin 4) (x : Option Session) : (s.setSession i x).bank = s.bank := rfl
@[simp] theorem State.setSession_pool (s : State) (i : Fin 4) (x : Option Session) : (s.setSession i x).pool = s.pool := rfl
@[simp] theorem State.setSession_cal (s : State) (i : Fin 4) (x : Option Session) : (s.setSession i x).cal = s.cal := rfl
@[simp] theorem State.setSession_tx (s : State) (i : Fin 4) (x : Option Session) : (s.setSession i x).tx = s.tx := rfl
@[simp] theorem State.setSession_port (s : State) (i : Fin 4) (x : Option Session) : (s.setSession i x).port = s.port := rfl
@[simp] theorem State.setSession_engine (s : State) (i : Fin 4) (x : Option Session) : (s.setSession i x).engine = s.engine := rfl
@[simp] theorem State.setSession_settings (s : State) (i : Fin 4) (x : Option Session) : (s.setSession i x).settings = s.settings := rfl
@[simp] theorem State.setSession_counters (s : State) (i : Fin 4) (x : Option Session) : (s.setSession i x).counters = s.counters := rfl
@[simp] theorem State.setSession_events (s : State) (i : Fin 4) (x : Option Session) : (s.setSession i x).events = s.events := rfl
@[simp] theorem State.setSession_handover (s : State) (i : Fin 4) (x : Option Session) : (s.setSession i x).handover = s.handover := rfl
@[simp] theorem State.setSession_pending (s : State) (i : Fin 4) (x : Option Session) : (s.setSession i x).pending = s.pending := rfl

/-! `emptySnapshot` -/

@[simp] theorem State.emptySnapshot_resetHeld (s : State) : (s.emptySnapshot).resetHeld = s.resetHeld := rfl
@[simp] theorem State.emptySnapshot_nodeAddress (s : State) : (s.emptySnapshot).nodeAddress = s.nodeAddress := rfl
@[simp] theorem State.emptySnapshot_rx (s : State) : (s.emptySnapshot).rx = s.rx := rfl
@[simp] theorem State.emptySnapshot_streams (s : State) : (s.emptySnapshot).streams = s.streams := rfl
@[simp] theorem State.emptySnapshot_bank (s : State) : (s.emptySnapshot).bank = s.bank := rfl
@[simp] theorem State.emptySnapshot_pool (s : State) : (s.emptySnapshot).pool = s.pool := rfl
@[simp] theorem State.emptySnapshot_cal (s : State) : (s.emptySnapshot).cal = s.cal := rfl
@[simp] theorem State.emptySnapshot_tx (s : State) : (s.emptySnapshot).tx = s.tx := rfl
@[simp] theorem State.emptySnapshot_port (s : State) : (s.emptySnapshot).port = s.port := rfl
@[simp] theorem State.emptySnapshot_engine (s : State) : (s.emptySnapshot).engine = s.engine := rfl
@[simp] theorem State.emptySnapshot_sess (s : State) : (s.emptySnapshot).sess = s.sess := rfl
@[simp] theorem State.emptySnapshot_settings (s : State) : (s.emptySnapshot).settings = s.settings := rfl
@[simp] theorem State.emptySnapshot_events (s : State) : (s.emptySnapshot).events = s.events := rfl
@[simp] theorem State.emptySnapshot_handover (s : State) : (s.emptySnapshot).handover = s.handover := rfl
@[simp] theorem State.emptySnapshot_pending (s : State) : (s.emptySnapshot).pending = s.pending := rfl

/-! What the updates write -/

@[simp] theorem State.countDevice_counters (s : State) (c : DeviceCounter) :
    (s.countDevice c).counters = { s.counters with device := s.counters.device.modify (deviceNumber c) (· + 1) } := rfl

@[simp] theorem State.countStream_counters (s : State) (i : Fin 256) (c : StreamCounter) :
    (s.countStream i c).counters = { s.counters with streams := s.counters.streams.modify i (·.raise c) } := rfl

@[simp] theorem State.countQueue_counters (s : State) (q : Fin 8) (c : QueueCounter) :
    (s.countQueue q c).counters = { s.counters with queues := s.counters.queues.modify q (·.raise c) } := rfl

@[simp] theorem State.setStream_streams (s : State) (i : Fin 256) (e : StreamEntry) :
    (s.setStream i e).streams = s.streams.set i e := rfl

@[simp] theorem State.setMeter_bank (s : State) (m : Fin 128) (x : Meter) :
    (s.setMeter m x).bank = { s.bank with meters := s.bank.meters.set m x } := rfl

@[simp] theorem State.setQueue_pool (s : State) (q : Fin 8) (x : EgressQueue) :
    (s.setQueue q x).pool = { s.pool with queues := s.pool.queues.set q x } := rfl

@[simp] theorem State.takeBuffer_pool (s : State) : s.takeBuffer.pool = { s.pool with free := s.pool.free - 1 } := rfl

@[simp] theorem State.returnBuffer_pool (s : State) : s.returnBuffer.pool = { s.pool with free := s.pool.free + 1 } := rfl

@[simp] theorem State.joinEgress_engine (s : State) (c : EgressCell) :
    (s.joinEgress c).engine = { s.engine with egress := s.engine.egress ++ [c] } := rfl

@[simp] theorem State.setSession_sess (s : State) (i : Fin 4) (x : Option Session) :
    (s.setSession i x).sess = { s.sess with entries := s.sess.entries.set i x } := rfl

@[simp] theorem State.emptySnapshot_counters (s : State) :
    s.emptySnapshot.counters = { s.counters with snapshot := .empty } := rfl

/-! The Event Unit's own updates -/

@[simp] theorem EventUnit.toIdle_flags (u : EventUnit) (n : Nat) : (u.toIdle n).flags = u.flags := rfl
@[simp] theorem EventUnit.toIdle_reportState (u : EventUnit) (n : Nat) : (u.toIdle n).reportState = .idle := rfl
@[simp] theorem EventUnit.toIdle_number (u : EventUnit) (n : Nat) : (u.toIdle n).number = u.number := rfl
@[simp] theorem EventUnit.toIdle_carried (u : EventUnit) (n : Nat) : (u.toIdle n).carried = 0 := rfl
@[simp] theorem EventUnit.toIdle_renewed (u : EventUnit) (n : Nat) : (u.toIdle n).renewed = 0 := rfl
@[simp] theorem EventUnit.toIdle_retriesLeft (u : EventUnit) (n : Nat) : (u.toIdle n).retriesLeft = n := rfl
@[simp] theorem EventUnit.toIdle_timer (u : EventUnit) (n : Nat) : (u.toIdle n).timer = none := rfl
@[simp] theorem EventUnit.toIdle_store (u : EventUnit) (n : Nat) : (u.toIdle n).store = none := rfl
@[simp] theorem EventUnit.toIdle_present (u : EventUnit) (n : Nat) : (u.toIdle n).present = none := rfl

@[simp] theorem EventUnit.occurrence_reportState (u : EventUnit) (f : EventFlag) :
    (u.occurrence f).reportState = u.reportState := rfl
@[simp] theorem EventUnit.occurrence_number (u : EventUnit) (f : EventFlag) : (u.occurrence f).number = u.number := rfl
@[simp] theorem EventUnit.occurrence_carried (u : EventUnit) (f : EventFlag) : (u.occurrence f).carried = u.carried := rfl
@[simp] theorem EventUnit.occurrence_timer (u : EventUnit) (f : EventFlag) : (u.occurrence f).timer = u.timer := rfl
@[simp] theorem EventUnit.occurrence_store (u : EventUnit) (f : EventFlag) : (u.occurrence f).store = u.store := rfl
@[simp] theorem EventUnit.occurrence_present (u : EventUnit) (f : EventFlag) : (u.occurrence f).present = u.present := rfl
@[simp] theorem EventUnit.occurrence_retriesLeft (u : EventUnit) (f : EventFlag) :
    (u.occurrence f).retriesLeft = u.retriesLeft := rfl

end Sys2Proof.Machine
end

