-- ==== Sys2Proof/Laws/Table.lean ====
section
/-! SUPPORT. Reading and writing a table: what a record reads as after each of the table's operations. -/

namespace Sys2Proof.Machine

variable {α : Type} {n : Nat}

theorem Table.ext_get {t u : Table α n} (h : ∀ i, t.get i = u.get i) : t = u := by
  obtain ⟨as, ha⟩ := t
  obtain ⟨bs, hb⟩ := u
  have : as = bs := List.ext_getElem (by omega) fun k h1 _ => h ⟨k, by omega⟩
  subst this
  rfl

theorem Table.get_eq_getElem (t : Table α n) (i : Fin n) : t.get i = t.cells[i.val]'(by rw [t.size]; exact i.isLt) := rfl

@[simp] theorem Table.get_fill (a : α) (i : Fin n) : (Table.fill n a).get i = a := by simp [Table.get, Table.fill]

@[simp] theorem Table.get_set_self (t : Table α n) (i : Fin n) (a : α) : (t.set i a).get i = a := by
  simp [Table.get, Table.set]

theorem Table.get_set (t : Table α n) (i j : Fin n) (a : α) : (t.set i a).get j = if i = j then a else t.get j := by
  simp [Table.get, Table.set, List.getElem_set, Fin.ext_iff]

theorem Table.get_set_ne (t : Table α n) {i j : Fin n} (a : α) (h : i ≠ j) : (t.set i a).get j = t.get j := by
  rw [Table.get_set, if_neg h]

@[simp] theorem Table.set_get (t : Table α n) (i : Fin n) : t.set i (t.get i) = t :=
  Table.ext_get fun j => by rw [Table.get_set]; split <;> simp_all

@[simp] theorem Table.set_set (t : Table α n) (i : Fin n) (a b : α) : (t.set i a).set i b = t.set i b :=
  Table.ext_get fun j => by simp only [Table.get_set]; split <;> rfl

theorem Table.get_modify (t : Table α n) (i j : Fin n) (f : α → α) :
    (t.modify i f).get j = if i = j then f (t.get i) else t.get j := by rw [Table.modify, Table.get_set]

@[simp] theorem Table.get_modify_self (t : Table α n) (i : Fin n) (f : α → α) : (t.modify i f).get i = f (t.get i) := by
  simp [Table.modify]

@[simp] theorem Table.get_map (t : Table α n) (f : α → α) (i : Fin n) : (t.map f).get i = f (t.get i) := by
  simp [Table.get, Table.map]

theorem getElem_mapFrom (f : Nat → α → α) (k : Nat) (as : List α) (i : Nat) (h : i < (mapFrom f k as).length) :
    (mapFrom f k as)[i] = f (k + i) (as[i]'(by rwa [length_mapFrom] at h)) := by
  induction as generalizing k i with
  | nil => simp [mapFrom] at h
  | cons a as ih =>
    cases i with
    | zero => simp [mapFrom]
    | succ i => simp [mapFrom, ih, Nat.add_assoc, Nat.add_comm 1]

@[simp] theorem Table.get_mapIdx (t : Table α n) (f : Nat → α → α) (i : Fin n) :
    (t.mapIdx f).get i = f i.val (t.get i) := by simp [Table.get, Table.mapIdx, getElem_mapFrom]

/-- The lowest index whose record satisfies `p` is found. -/
theorem Table.find?_eq_some {t : Table α n} {p : α → Bool} {i : Fin n} :
    t.find? p = some i ↔ p (t.get i) = true ∧ ∀ j, j < i → p (t.get j) = false := by
  unfold Table.find?
  cases h : t.cells.findIdx? p with
  | none =>
    simp only [reduceCtorEq, false_iff, not_and]
    intro hp
    rw [List.findIdx?_eq_none_iff] at h
    have := h _ (List.getElem_mem (by rw [t.size]; exact i.isLt) : t.cells[i.val]'_ ∈ t.cells)
    simp_all [Table.get]
  | some k =>
    rw [List.findIdx?_eq_some_iff_getElem] at h
    obtain ⟨hk, hp, hlow⟩ := h
    have hkn : k < n := by have := t.size; omega
    simp only [hkn, dif_pos, Option.some.injEq]
    constructor
    · rintro rfl
      exact ⟨hp, fun j hj => by simpa [Table.get] using hlow j.val hj⟩
    · rintro ⟨hi, hlo⟩
      rcases Nat.lt_trichotomy k i.val with h | h | h
      · have := hlo ⟨k, hkn⟩ h
        simp [Table.get] at this
        simp_all
      · exact Fin.ext h
      · have := hlow i.val h
        simp [Table.get] at hi
        simp_all

theorem Table.find?_eq_none {t : Table α n} {p : α → Bool} : t.find? p = none ↔ ∀ i, p (t.get i) = false := by
  constructor
  · intro h
    by_contra hc
    push Not at hc
    have hex : ∃ k, ∃ hk : k < n, p (t.get ⟨k, hk⟩) = true := by
      obtain ⟨i, hi⟩ := hc
      exact ⟨i.val, i.isLt, by simpa using hi⟩
    classical
    have hfind := Nat.find_spec hex
    obtain ⟨hk, hp⟩ := hfind
    have : t.find? p = some ⟨Nat.find hex, hk⟩ := Table.find?_eq_some.2 ⟨hp, fun j hj => by
      have := Nat.find_min hex (m := j.val) hj
      simp only [not_exists, Bool.not_eq_true] at this
      exact this j.isLt⟩
    simp [this] at h
  · intro h
    cases hf : t.find? p with
    | none => rfl
    | some i =>
      have hp := (Table.find?_eq_some.1 hf).1
      rw [h i] at hp
      cases hp

theorem mem_indicesFrom {p : α → Bool} {k : Nat} {as : List α} {i : Fin n} :
    i ∈ indicesFrom p n k as ↔ ∃ h : k ≤ i.val ∧ i.val - k < as.length, p (as[i.val - k]'h.2) = true := by
  induction as generalizing k with
  | nil => simp [indicesFrom]
  | cons a as ih =>
    unfold indicesFrom
    by_cases hk : k < n
    · simp only [hk, dif_pos]
      by_cases hi : i.val = k
      · have hi' : i = ⟨k, hk⟩ := Fin.ext hi
        subst hi'
        by_cases hp : p a <;> simp [hp, ih]
      · have hne : i ≠ ⟨k, hk⟩ := fun h => hi (by rw [h])
        have key : i ∈ indicesFrom p n (k + 1) as ↔
            ∃ h : k ≤ i.val ∧ i.val - k < (a :: as).length, p ((a :: as)[i.val - k]'h.2) = true := by
          rw [ih]
          constructor
          · rintro ⟨h, hp⟩
            have e : i.val - k = (i.val - (k + 1)) + 1 := by omega
            refine ⟨⟨by omega, by simp; omega⟩, ?_⟩
            simpa [e] using hp
          · rintro ⟨h, hp⟩
            have e : i.val - k = (i.val - (k + 1)) + 1 := by omega
            simp only [List.length_cons] at h
            refine ⟨⟨by omega, by omega⟩, ?_⟩
            simpa [e] using hp
        by_cases hp : p a <;> simp [hp, hne, key]
    · simp only [hk, dif_neg, not_false_eq_true, List.not_mem_nil, false_iff]
      rintro ⟨h, -⟩
      have := i.isLt
      omega

/-- The indices a table lists are those of the records that satisfy `p`. -/
@[simp] theorem Table.mem_indices {t : Table α n} {p : α → Bool} {i : Fin n} : i ∈ t.indices p ↔ p (t.get i) = true := by
  unfold Table.indices
  rw [mem_indicesFrom]
  simp [Table.get, t.size]

end Sys2Proof.Machine
end

