-- ==== Sys2Proof/Laws/Ops.lean ====
section
/-! SUPPORT. What the shared operations leave as it was, and the one lemma for each that says everything it can do. -/

namespace Sys2Proof.Machine

/-! ### One event, and the held part -/

theorem live_held {f : State → State} {s : State} (h : s.resetHeld = true) : live f s = s := by simp [live, h]

theorem live_running {f : State → State} {s : State} (h : s.resetHeld = false) : live f s = oneEvent f s := by simp [live, h]

/-- An event that hands no flag over, whatever was handed over before, is its function alone. -/
theorem oneEvent_eq {f : State → State} {s : State}
    (h : f { s with handover := { s.handover with flags := [] } } =
      { f s with handover := { (f s).handover with flags := [] } })
    (hk : (f s).handover.flags = s.handover.flags) : oneEvent f s = f s := by
  simp only [oneEvent, h, List.append_nil, ← hk]

/-! ### Flags handed over -/

@[simp] theorem State.hand_frame (s : State) (f : EventFlag) :
    (s.hand f).resetHeld = s.resetHeld ∧ (s.hand f).nodeAddress = s.nodeAddress
      ∧ (s.hand f).rx = s.rx ∧ (s.hand f).streams = s.streams
      ∧ (s.hand f).bank = s.bank ∧ (s.hand f).pool = s.pool
      ∧ (s.hand f).cal = s.cal ∧ (s.hand f).tx = s.tx
      ∧ (s.hand f).port = s.port ∧ (s.hand f).engine = s.engine
      ∧ (s.hand f).sess = s.sess ∧ (s.hand f).settings = s.settings
      ∧ (s.hand f).counters = s.counters ∧ (s.hand f).events = s.events
      ∧ (s.hand f).pending = s.pending := by
  unfold State.hand; split <;> simp

theorem State.hand_eq (s : State) (f : EventFlag) :
    s.hand f = { s with handover := { s.handover with
      flags := if f ∈ s.handover.flags then s.handover.flags else s.handover.flags ++ [f] } } := by
  unfold State.hand
  split <;> rfl

@[simp] theorem State.mem_hand (s : State) (f g : EventFlag) :
    g ∈ (s.hand f).handover.flags ↔ g = f ∨ g ∈ s.handover.flags := by
  rw [State.hand_eq]
  by_cases h : f ∈ s.handover.flags
  · simp only [h, if_true]
    constructor
    · exact Or.inr
    · rintro (rfl | hg) <;> assumption
  · simp [h, or_comm]

/-! ### Counters, owners, sources -/

@[simp] theorem State.countOther_frame (s : State) (k : Kind) (o : Option (Fin 256)) :
    (s.countOther k o).resetHeld = s.resetHeld ∧ (s.countOther k o).nodeAddress = s.nodeAddress
      ∧ (s.countOther k o).rx = s.rx ∧ (s.countOther k o).streams = s.streams
      ∧ (s.countOther k o).bank = s.bank ∧ (s.countOther k o).pool = s.pool
      ∧ (s.countOther k o).cal = s.cal ∧ (s.countOther k o).tx = s.tx
      ∧ (s.countOther k o).port = s.port ∧ (s.countOther k o).engine = s.engine
      ∧ (s.countOther k o).sess = s.sess ∧ (s.countOther k o).settings = s.settings
      ∧ (s.countOther k o).events = s.events ∧ (s.countOther k o).handover = s.handover
      ∧ (s.countOther k o).pending = s.pending := by
  unfold State.countOther; split
  · split <;> simp
  · simp

@[simp] theorem State.handSource_frame (s : State) (o : Origin) (p : Meter → Bool) :
    (s.handSource o p).resetHeld = s.resetHeld ∧ (s.handSource o p).nodeAddress = s.nodeAddress
      ∧ (s.handSource o p).rx = s.rx ∧ (s.handSource o p).streams = s.streams
      ∧ (s.handSource o p).bank = s.bank ∧ (s.handSource o p).pool = s.pool
      ∧ (s.handSource o p).cal = s.cal ∧ (s.handSource o p).tx = s.tx
      ∧ (s.handSource o p).port = s.port ∧ (s.handSource o p).engine = s.engine
      ∧ (s.handSource o p).sess = s.sess ∧ (s.handSource o p).settings = s.settings
      ∧ (s.handSource o p).counters = s.counters ∧ (s.handSource o p).events = s.events
      ∧ (s.handSource o p).pending = s.pending := by
  unfold State.handSource; split <;> simp

@[simp] theorem State.handSource_flags (s : State) (o : Origin) (p : Meter → Bool) :
    (s.handSource o p).handover.flags = s.handover.flags := by unfold State.handSource; split <;> rfl

/-- R28: a source event is on its way to exactly the meters that listen to it, where there is one. -/
theorem State.handSource_cases (s : State) (o : Origin) (p : Meter → Bool) :
    (s.bank.meters.indices p = [] ∧ s.handSource o p = s)
      ∨ (s.bank.meters.indices p ≠ [] ∧ s.handSource o p = { s with handover := { s.handover with
          sources := s.handover.sources ++ [{ origin := o, targets := s.bank.meters.indices p }] } }) := by
  unfold State.handSource
  split <;> rename_i h
  · exact .inl ⟨h, rfl⟩
  · exact .inr ⟨by simp [h], by simp [h]⟩

@[simp] theorem State.departs_frame (s : State) (i : Fin 256) :
    (s.departs i).resetHeld = s.resetHeld ∧ (s.departs i).nodeAddress = s.nodeAddress
      ∧ (s.departs i).rx = s.rx ∧ (s.departs i).bank = s.bank
      ∧ (s.departs i).pool = s.pool ∧ (s.departs i).cal = s.cal
      ∧ (s.departs i).tx = s.tx ∧ (s.departs i).port = s.port
      ∧ (s.departs i).engine = s.engine ∧ (s.departs i).sess = s.sess
      ∧ (s.departs i).settings = s.settings ∧ (s.departs i).counters = s.counters
      ∧ (s.departs i).events = s.events ∧ (s.departs i).pending = s.pending := by
  simp only [State.departs]; split <;> simp

/-- R16, R18: a departure frees a RETIRING entry whose last cell it was; otherwise it lowers the queued count. -/
theorem State.departs_streams (s : State) (i : Fin 256) :
    (s.departs i).streams = s.streams.set i
      (if (s.streams.get i).state = .retiring ∧ (s.streams.get i).queued - 1 = 0 then .cleared
       else { s.streams.get i with queued := (s.streams.get i).queued - 1 }) := by
  simp only [State.departs]
  split <;> simp

@[simp] theorem State.ownerDeparts_frame (s : State) (o : Option (Fin 256)) :
    (s.ownerDeparts o).resetHeld = s.resetHeld ∧ (s.ownerDeparts o).nodeAddress = s.nodeAddress
      ∧ (s.ownerDeparts o).rx = s.rx ∧ (s.ownerDeparts o).bank = s.bank
      ∧ (s.ownerDeparts o).pool = s.pool ∧ (s.ownerDeparts o).cal = s.cal
      ∧ (s.ownerDeparts o).tx = s.tx ∧ (s.ownerDeparts o).port = s.port
      ∧ (s.ownerDeparts o).engine = s.engine ∧ (s.ownerDeparts o).sess = s.sess
      ∧ (s.ownerDeparts o).settings = s.settings ∧ (s.ownerDeparts o).counters = s.counters
      ∧ (s.ownerDeparts o).events = s.events ∧ (s.ownerDeparts o).pending = s.pending := by
  unfold State.ownerDeparts; split <;> simp

@[simp] theorem State.ownerGains_frame (s : State) (o : Option (Fin 256)) :
    (s.ownerGains o).resetHeld = s.resetHeld ∧ (s.ownerGains o).nodeAddress = s.nodeAddress
      ∧ (s.ownerGains o).rx = s.rx ∧ (s.ownerGains o).bank = s.bank
      ∧ (s.ownerGains o).pool = s.pool ∧ (s.ownerGains o).cal = s.cal
      ∧ (s.ownerGains o).tx = s.tx ∧ (s.ownerGains o).port = s.port
      ∧ (s.ownerGains o).engine = s.engine ∧ (s.ownerGains o).sess = s.sess
      ∧ (s.ownerGains o).settings = s.settings ∧ (s.ownerGains o).counters = s.counters
      ∧ (s.ownerGains o).events = s.events ∧ (s.ownerGains o).handover = s.handover
      ∧ (s.ownerGains o).pending = s.pending := by
  unfold State.ownerGains; split <;> simp

@[simp] theorem State.refuseAdd_frame (s : State) :
    (s.refuseAdd).resetHeld = s.resetHeld ∧ (s.refuseAdd).nodeAddress = s.nodeAddress
      ∧ (s.refuseAdd).rx = s.rx ∧ (s.refuseAdd).streams = s.streams
      ∧ (s.refuseAdd).bank = s.bank ∧ (s.refuseAdd).pool = s.pool
      ∧ (s.refuseAdd).cal = s.cal ∧ (s.refuseAdd).tx = s.tx
      ∧ (s.refuseAdd).port = s.port ∧ (s.refuseAdd).engine = s.engine
      ∧ (s.refuseAdd).sess = s.sess ∧ (s.refuseAdd).settings = s.settings
      ∧ (s.refuseAdd).events = s.events ∧ (s.refuseAdd).pending = s.pending := by
  simp [State.refuseAdd]

/-! ### Sessions -/

@[simp] theorem State.restartIdle_frame (s : State) (i : Fin 4) :
    (s.restartIdle i).resetHeld = s.resetHeld ∧ (s.restartIdle i).nodeAddress = s.nodeAddress
      ∧ (s.restartIdle i).rx = s.rx ∧ (s.restartIdle i).streams = s.streams
      ∧ (s.restartIdle i).bank = s.bank ∧ (s.restartIdle i).pool = s.pool
      ∧ (s.restartIdle i).cal = s.cal ∧ (s.restartIdle i).tx = s.tx
      ∧ (s.restartIdle i).port = s.port ∧ (s.restartIdle i).engine = s.engine
      ∧ (s.restartIdle i).settings = s.settings ∧ (s.restartIdle i).counters = s.counters
      ∧ (s.restartIdle i).events = s.events ∧ (s.restartIdle i).handover = s.handover
      ∧ (s.restartIdle i).pending = s.pending := by
  unfold State.restartIdle; split <;> simp

@[simp] theorem State.restartIdle_claim (s : State) (i : Fin 4) : (s.restartIdle i).sess.claim = s.sess.claim := by
  unfold State.restartIdle
  split <;> simp

@[simp] theorem State.teardown_frame (s : State) (i : Fin 4) :
    (s.teardown i).resetHeld = s.resetHeld ∧ (s.teardown i).nodeAddress = s.nodeAddress
      ∧ (s.teardown i).rx = s.rx ∧ (s.teardown i).streams = s.streams
      ∧ (s.teardown i).bank = s.bank ∧ (s.teardown i).pool = s.pool
      ∧ (s.teardown i).cal = s.cal ∧ (s.teardown i).tx = s.tx
      ∧ (s.teardown i).port = s.port ∧ (s.teardown i).engine = s.engine
      ∧ (s.teardown i).settings = s.settings ∧ (s.teardown i).events = s.events
      ∧ (s.teardown i).handover = s.handover ∧ (s.teardown i).pending = s.pending := by
  simp only [State.teardown]; split <;> split <;> simp

/-- R134: everything a teardown does. -/
theorem State.teardown_eq (s : State) (i : Fin 4) :
    s.teardown i = { s with
      sess := { entries := s.sess.entries.set i none, claim := if s.sess.claim = some i then none else s.sess.claim }
      counters := { s.counters with
        snapshot := if s.counters.snapshot.owner = some i then .empty else s.counters.snapshot } } := by
  simp only [State.teardown]
  by_cases h1 : s.sess.claim = some i <;> by_cases h2 : s.counters.snapshot.owner = some i <;>
    simp [h1, h2, State.setSession, State.emptySnapshot]

end Sys2Proof.Machine
end

