-- ==== Sys2Proof/Laws/Admission.lean ====
section
/-! SUPPORT. Policing, admission and the handling of ring and local cells: what each leaves as it was, and the one lemma for each
shared operation that says everything it can do. -/

namespace Sys2Proof.Machine

/-! ### Conformance -/

@[simp] theorem State.charge_frame (s : State) (m : Fin 128) :
    (s.charge m).resetHeld = s.resetHeld ∧ (s.charge m).nodeAddress = s.nodeAddress
      ∧ (s.charge m).rx = s.rx ∧ (s.charge m).streams = s.streams
      ∧ (s.charge m).pool = s.pool ∧ (s.charge m).cal = s.cal
      ∧ (s.charge m).tx = s.tx ∧ (s.charge m).port = s.port
      ∧ (s.charge m).engine = s.engine ∧ (s.charge m).sess = s.sess
      ∧ (s.charge m).settings = s.settings ∧ (s.charge m).counters = s.counters
      ∧ (s.charge m).events = s.events ∧ (s.charge m).handover = s.handover
      ∧ (s.charge m).pending = s.pending := by
  simp [State.charge]

@[simp] theorem State.tested_frame (s : State) (m : Fin 128) :
    (s.tested m).resetHeld = s.resetHeld ∧ (s.tested m).nodeAddress = s.nodeAddress
      ∧ (s.tested m).rx = s.rx ∧ (s.tested m).streams = s.streams
      ∧ (s.tested m).pool = s.pool ∧ (s.tested m).cal = s.cal
      ∧ (s.tested m).tx = s.tx ∧ (s.tested m).port = s.port
      ∧ (s.tested m).engine = s.engine ∧ (s.tested m).sess = s.sess
      ∧ (s.tested m).settings = s.settings ∧ (s.tested m).counters = s.counters
      ∧ (s.tested m).events = s.events ∧ (s.tested m).handover = s.handover
      ∧ (s.tested m).pending = s.pending := by
  unfold State.tested; split
  · split <;> simp
  · simp

/-- R35, R36: a test that does not conform charges nothing; one that conforms charges the meter, and its partner. -/
theorem State.tested_cases (s : State) (m : Fin 128) :
    (s.conforms m = false ∧ s.tested m = s)
      ∨ (s.conforms m = true ∧ (s.meter m).partner = none ∧ s.tested m = s.charge m)
      ∨ ∃ p, s.conforms m = true ∧ (s.meter m).partner = some p ∧ s.tested m = (s.charge m).charge p := by
  unfold State.tested
  by_cases h : s.conforms m = true
  · cases hp : (s.meter m).partner with
    | none => exact .inr (.inl ⟨h, rfl, by simp [h]⟩)
    | some p => exact .inr (.inr ⟨p, h, rfl, by simp [h]⟩)
  · exact .inl ⟨by simpa using h, by simp [h]⟩

/-! ### Admission -/

@[simp] theorem State.accept_frame (s : State) (q : Fin 8) (c : QueuedCell) :
    (s.accept q c).resetHeld = s.resetHeld ∧ (s.accept q c).nodeAddress = s.nodeAddress
      ∧ (s.accept q c).rx = s.rx ∧ (s.accept q c).bank = s.bank
      ∧ (s.accept q c).cal = s.cal ∧ (s.accept q c).tx = s.tx
      ∧ (s.accept q c).port = s.port ∧ (s.accept q c).engine = s.engine
      ∧ (s.accept q c).sess = s.sess ∧ (s.accept q c).settings = s.settings
      ∧ (s.accept q c).events = s.events ∧ (s.accept q c).handover = s.handover
      ∧ (s.accept q c).pending = s.pending := by
  simp [State.accept]

/-- R57: what each verdict says of the queue and the pool. -/
theorem State.verdict_cases (s : State) (q : Fin 8) (de : Bool) :
    (s.verdict q de = .fullByLimit ∧ (s.queue q).limit ≤ (s.queue q).depth)
      ∨ (s.verdict q de = .deThreshold ∧ (s.queue q).depth < (s.queue q).limit ∧ de = true
          ∧ (s.queue q).deThreshold ≤ (s.queue q).depth)
      ∨ (s.verdict q de = .poolEmpty ∧ (s.queue q).depth < (s.queue q).limit ∧ s.pool.free = 0)
      ∨ (s.verdict q de = .accepted ∧ (s.queue q).depth < (s.queue q).limit ∧ 0 < s.pool.free) := by
  unfold State.verdict
  split
  · simp_all
  · split
    · simp_all
    · split
      · simp_all
      · simp_all
        omega

@[simp] theorem State.admit_frame (s : State) (q : Fin 8) (c : QueuedCell) :
    (s.admitEgress q c).resetHeld = s.resetHeld ∧ (s.admitEgress q c).nodeAddress = s.nodeAddress
      ∧ (s.admitEgress q c).rx = s.rx ∧ (s.admitEgress q c).bank = s.bank
      ∧ (s.admitEgress q c).cal = s.cal ∧ (s.admitEgress q c).tx = s.tx
      ∧ (s.admitEgress q c).port = s.port ∧ (s.admitEgress q c).engine = s.engine
      ∧ (s.admitEgress q c).sess = s.sess ∧ (s.admitEgress q c).settings = s.settings
      ∧ (s.admitEgress q c).events = s.events ∧ (s.admitEgress q c).pending = s.pending := by
  unfold State.admitEgress; split <;> simp

@[simp] theorem State.admitDrop_frame (s : State) (i : Fin 256) (c : RawCell) :
    (s.admitDrop i c).resetHeld = s.resetHeld ∧ (s.admitDrop i c).nodeAddress = s.nodeAddress
      ∧ (s.admitDrop i c).rx = s.rx ∧ (s.admitDrop i c).streams = s.streams
      ∧ (s.admitDrop i c).bank = s.bank ∧ (s.admitDrop i c).cal = s.cal
      ∧ (s.admitDrop i c).tx = s.tx ∧ (s.admitDrop i c).port = s.port
      ∧ (s.admitDrop i c).engine = s.engine ∧ (s.admitDrop i c).sess = s.sess
      ∧ (s.admitDrop i c).settings = s.settings ∧ (s.admitDrop i c).events = s.events
      ∧ (s.admitDrop i c).pending = s.pending := by
  simp only [State.admitDrop]; split
  · simp
  · split <;> simp

@[simp] theorem State.policeAndAdmit_frame (s : State) (i : Fin 256) (e : StreamEntry) (h : Header) (p : Payload) :
    (s.policeAndAdmit i e h p).resetHeld = s.resetHeld ∧ (s.policeAndAdmit i e h p).nodeAddress = s.nodeAddress
      ∧ (s.policeAndAdmit i e h p).rx = s.rx ∧ (s.policeAndAdmit i e h p).cal = s.cal
      ∧ (s.policeAndAdmit i e h p).tx = s.tx ∧ (s.policeAndAdmit i e h p).port = s.port
      ∧ (s.policeAndAdmit i e h p).engine = s.engine ∧ (s.policeAndAdmit i e h p).sess = s.sess
      ∧ (s.policeAndAdmit i e h p).settings = s.settings ∧ (s.policeAndAdmit i e h p).events = s.events
      ∧ (s.policeAndAdmit i e h p).pending = s.pending := by
  simp only [State.policeAndAdmit]; split
  · simp
  · split
    · simp
    · split <;> simp

@[simp] theorem State.expireHop_frame (s : State) :
    (s.expireHop).resetHeld = s.resetHeld ∧ (s.expireHop).nodeAddress = s.nodeAddress
      ∧ (s.expireHop).rx = s.rx ∧ (s.expireHop).streams = s.streams
      ∧ (s.expireHop).bank = s.bank ∧ (s.expireHop).pool = s.pool
      ∧ (s.expireHop).cal = s.cal ∧ (s.expireHop).tx = s.tx
      ∧ (s.expireHop).port = s.port ∧ (s.expireHop).engine = s.engine
      ∧ (s.expireHop).sess = s.sess ∧ (s.expireHop).settings = s.settings
      ∧ (s.expireHop).events = s.events ∧ (s.expireHop).pending = s.pending := by
  simp [State.expireHop]

@[simp] theorem State.forwardPart_frame (s : State) (i : Fin 256) (e : StreamEntry) (h : Header) (p : Payload) :
    (s.forwardPart i e h p).resetHeld = s.resetHeld ∧ (s.forwardPart i e h p).nodeAddress = s.nodeAddress
      ∧ (s.forwardPart i e h p).rx = s.rx ∧ (s.forwardPart i e h p).cal = s.cal
      ∧ (s.forwardPart i e h p).tx = s.tx ∧ (s.forwardPart i e h p).port = s.port
      ∧ (s.forwardPart i e h p).engine = s.engine ∧ (s.forwardPart i e h p).sess = s.sess
      ∧ (s.forwardPart i e h p).settings = s.settings ∧ (s.forwardPart i e h p).events = s.events
      ∧ (s.forwardPart i e h p).pending = s.pending := by
  unfold State.forwardPart; split
  · simp
  · split <;> simp

/-! ### Ring cells, control cells and local cells -/

@[simp] theorem State.unknownLabel_frame (s : State) (h : Header) (p : Payload) :
    (s.unknownLabel h p).resetHeld = s.resetHeld ∧ (s.unknownLabel h p).nodeAddress = s.nodeAddress
      ∧ (s.unknownLabel h p).rx = s.rx ∧ (s.unknownLabel h p).bank = s.bank
      ∧ (s.unknownLabel h p).cal = s.cal ∧ (s.unknownLabel h p).tx = s.tx
      ∧ (s.unknownLabel h p).port = s.port ∧ (s.unknownLabel h p).engine = s.engine
      ∧ (s.unknownLabel h p).sess = s.sess ∧ (s.unknownLabel h p).settings = s.settings
      ∧ (s.unknownLabel h p).events = s.events ∧ (s.unknownLabel h p).pending = s.pending := by
  simp only [State.unknownLabel]; split
  · simp
  · split <;> simp

@[simp] theorem State.applyAction_frame (s : State) (i : Fin 256) (e : StreamEntry) (c : RawCell) :
    (s.applyAction i e c).resetHeld = s.resetHeld ∧ (s.applyAction i e c).nodeAddress = s.nodeAddress
      ∧ (s.applyAction i e c).rx = s.rx ∧ (s.applyAction i e c).cal = s.cal
      ∧ (s.applyAction i e c).tx = s.tx ∧ (s.applyAction i e c).port = s.port
      ∧ (s.applyAction i e c).engine = s.engine ∧ (s.applyAction i e c).sess = s.sess
      ∧ (s.applyAction i e c).settings = s.settings ∧ (s.applyAction i e c).events = s.events
      ∧ (s.applyAction i e c).pending = s.pending := by
  simp only [State.applyAction]; split <;> simp

@[simp] theorem State.lookupRing_frame (s : State) (c : RawCell) :
    (s.lookupRing c).resetHeld = s.resetHeld ∧ (s.lookupRing c).nodeAddress = s.nodeAddress
      ∧ (s.lookupRing c).rx = s.rx ∧ (s.lookupRing c).cal = s.cal
      ∧ (s.lookupRing c).tx = s.tx ∧ (s.lookupRing c).port = s.port
      ∧ (s.lookupRing c).engine = s.engine ∧ (s.lookupRing c).sess = s.sess
      ∧ (s.lookupRing c).settings = s.settings ∧ (s.lookupRing c).events = s.events
      ∧ (s.lookupRing c).pending = s.pending := by
  simp only [State.lookupRing]; split
  · simp
  · split
    · simp
    · split <;> simp

@[simp] theorem State.toIntake_frame (s : State) (c : ControlCell) :
    (s.toIntake c).resetHeld = s.resetHeld ∧ (s.toIntake c).nodeAddress = s.nodeAddress
      ∧ (s.toIntake c).rx = s.rx ∧ (s.toIntake c).streams = s.streams
      ∧ (s.toIntake c).bank = s.bank ∧ (s.toIntake c).pool = s.pool
      ∧ (s.toIntake c).cal = s.cal ∧ (s.toIntake c).tx = s.tx
      ∧ (s.toIntake c).port = s.port ∧ (s.toIntake c).sess = s.sess
      ∧ (s.toIntake c).settings = s.settings ∧ (s.toIntake c).events = s.events
      ∧ (s.toIntake c).pending = s.pending := by
  unfold State.toIntake; split
  · simp
  · split <;> simp

@[simp] theorem State.toTransit_frame (s : State) (c : ControlCell) :
    (s.toTransit c).resetHeld = s.resetHeld ∧ (s.toTransit c).nodeAddress = s.nodeAddress
      ∧ (s.toTransit c).rx = s.rx ∧ (s.toTransit c).streams = s.streams
      ∧ (s.toTransit c).bank = s.bank ∧ (s.toTransit c).pool = s.pool
      ∧ (s.toTransit c).cal = s.cal ∧ (s.toTransit c).tx = s.tx
      ∧ (s.toTransit c).port = s.port ∧ (s.toTransit c).sess = s.sess
      ∧ (s.toTransit c).settings = s.settings ∧ (s.toTransit c).events = s.events
      ∧ (s.toTransit c).pending = s.pending := by
  unfold State.toTransit; split
  · simp
  · split <;> simp

@[simp] theorem State.routeControl_frame (s : State) (c : ControlCell) :
    (s.routeControl c).resetHeld = s.resetHeld ∧ (s.routeControl c).nodeAddress = s.nodeAddress
      ∧ (s.routeControl c).rx = s.rx ∧ (s.routeControl c).streams = s.streams
      ∧ (s.routeControl c).bank = s.bank ∧ (s.routeControl c).pool = s.pool
      ∧ (s.routeControl c).cal = s.cal ∧ (s.routeControl c).tx = s.tx
      ∧ (s.routeControl c).port = s.port ∧ (s.routeControl c).sess = s.sess
      ∧ (s.routeControl c).settings = s.settings ∧ (s.routeControl c).events = s.events
      ∧ (s.routeControl c).pending = s.pending := by
  simp only [State.routeControl]; split
  · split <;> simp
  · split
    · split <;> simp
    · simp

@[simp] theorem State.sortCell_frame (s : State) (c : RawCell) :
    (s.sortCell c).resetHeld = s.resetHeld ∧ (s.sortCell c).nodeAddress = s.nodeAddress
      ∧ (s.sortCell c).rx = s.rx ∧ (s.sortCell c).cal = s.cal
      ∧ (s.sortCell c).tx = s.tx ∧ (s.sortCell c).port = s.port
      ∧ (s.sortCell c).sess = s.sess ∧ (s.sortCell c).settings = s.settings
      ∧ (s.sortCell c).events = s.events ∧ (s.sortCell c).pending = s.pending := by
  simp only [State.sortCell]; split <;> simp [State.markSource]

@[simp] theorem State.arriveLocal_frame (s : State) (c : RawCell) :
    (s.arriveLocal c).resetHeld = s.resetHeld ∧ (s.arriveLocal c).nodeAddress = s.nodeAddress
      ∧ (s.arriveLocal c).rx = s.rx ∧ (s.arriveLocal c).cal = s.cal
      ∧ (s.arriveLocal c).tx = s.tx ∧ (s.arriveLocal c).port = s.port
      ∧ (s.arriveLocal c).engine = s.engine ∧ (s.arriveLocal c).sess = s.sess
      ∧ (s.arriveLocal c).settings = s.settings ∧ (s.arriveLocal c).events = s.events
      ∧ (s.arriveLocal c).pending = s.pending := by
  simp only [State.arriveLocal]; split
  · simp
  · split
    · simp
    · split
      · simp
      · split <;> simp

end Sys2Proof.Machine
end

