-- ==== Sys2Proof/Laws/Engine.lean ====
section
/-! SUPPORT. The execution of an intake command: when one is taken, and the one equation for a command that is accepted. -/

namespace Sys2Proof.Machine

/-- R126: when an execution can be taken. -/
theorem State.executable_eq_some {s : State} {k : ControlCell} {rest : List ControlCell} :
    s.executable = some (k, rest) ↔
      s.engine.intake = k :: rest ∧ s.engine.restartPending = false ∧ s.engine.egress.length < 8 := by
  unfold State.executable State.egressRoom
  split <;> simp_all [Config.controlEgressPlaces]
  tauto

/-- R126, R128: an execution that is taken makes step 1 of R128 and then its own steps. -/
theorem execution_taken {s : State} {c : Control} {rest : List ControlCell} {op : Option Op} {body : Control → State → State}
    (h : s.Takes c rest) (hop : Op.ofCode c.op = op) :
    execution op body s =
      if 63 < c.src.toNat then
        (s.beginExecution rest).sendReply ((s.beginExecution rest).replyCell c { status := .badParam })
      else body c (s.beginExecution rest) := by
  obtain ⟨k, hk, rfl⟩ := h.head
  have := State.executable_eq_some.2 ⟨hk, h.ready, h.room⟩
  simp [execution, this, hop]

/-- R126: everything an execution can do. -/
theorem execution_cases (op : Option Op) (body : Control → State → State) (s : State) :
    execution op body s = s
      ∨ ∃ k rest, s.executable = some (k, rest) ∧ Op.ofCode (Control.ofPayload k.payload).op = op
          ∧ (execution op body s = (s.beginExecution rest).sendReply
                ((s.beginExecution rest).replyCell (Control.ofPayload k.payload) { status := .badParam })
              ∨ (Control.ofPayload k.payload).src.toNat ≤ 63
                ∧ execution op body s = body (Control.ofPayload k.payload) (s.beginExecution rest)) := by
  unfold execution
  split
  · exact .inl rfl
  · rename_i k rest h
    by_cases hop : Op.ofCode (Control.ofPayload k.payload).op = op
    · by_cases hs : 63 < (Control.ofPayload k.payload).src.toNat
      · exact .inr ⟨k, rest, h, hop, .inl (by simp [hop, hs])⟩
      · exact .inr ⟨k, rest, h, hop, .inr ⟨by omega, by simp [hop, hs]⟩⟩
    · exact .inl (by simp [hop])

/-- R126, R130, R132: the state in which an accepted command makes its own checks. -/
def State.begun (s : State) (c : Control) (rest : List ControlCell) (i : Fin 4) (x : Session) : State :=
  { s with
    engine := { s.engine with intake := rest }
    counters := { s.counters with device := s.counters.device.set 15 (s.counters.device.get 15 + 1) }
    sess := { s.sess with
      entries := s.sess.entries.set i
        (some { manager := x.manager, lastSeq := c.seq, cached := x.cached, idleTimer := 0 }) } }

theorem State.restartIdle_some {s : State} {i : Fin 4} {x : Session} (h : s.sess.entries.get i = some x) :
    s.restartIdle i = s.setSession i (some { x with idleTimer := 0 }) := by simp [State.restartIdle, h]

theorem State.advanceSeq_some {s : State} {i : Fin 4} {x : Session} (n : Byte) (h : s.sess.entries.get i = some x) :
    s.advanceSeq i n = s.setSession i (some { x with lastSeq := n }) := by simp [State.advanceSeq, h]

theorem State.cacheReply_some {s : State} {i : Fin 4} {x : Session} (k : ControlCell) (h : s.sess.entries.get i = some x) :
    s.cacheReply i k = s.setSession i (some { x with cached := k }) := by simp [State.cacheReply, h]

/-- The handed-over flags stand outside what an execution reads. -/
theorem State.Accepts.withFlags {s : State} {c : Control} {rest : List ControlCell} {i : Fin 4} {x : Session}
    (h : s.Accepts c rest i x) (fs : List EventFlag) :
    ({ s with handover := { s.handover with flags := fs } } : State).Accepts c rest i x :=
  ⟨⟨h.takes.released, h.takes.ready, h.takes.room, h.takes.head⟩, h.sender, h.session, h.entry, h.next⟩

/-- R128, steps 4 to 8: an accepted command that holds the claim it needs makes its own checks and effects, and is answered. -/
theorem inSession_accepted {s : State} {c : Control} {rest : List ControlCell} {i : Fin 4} {x : Session}
    {claim : Control → Bool} {own : Control → Fin 4 → State → Done} (h : s.Accepts c rest i x)
    (hcl : claim c = true → s.sess.claim = some i) :
    inSession claim own c (s.beginExecution rest) =
      (s.begun c rest i x).conclude c i (own c i (s.begun c rest i x)) := by
  have hs : (s.beginExecution rest).sessionOf (c.src.setWidth 6) = some i := h.session
  have he : (s.beginExecution rest).sess.entries.get i = some x := h.entry
  have hi : ((s.beginExecution rest).restartIdle i).sess.entries.get i = some { x with idleTimer := 0 } := by
    rw [State.restartIdle_some he]
    exact Table.get_set_self _ _ _
  have hb : ((s.beginExecution rest).restartIdle i).advanceSeq i c.seq = s.begun c rest i x := by
    rw [State.advanceSeq_some _ hi, State.restartIdle_some he]
    simp only [State.setSession, Table.set_set]
    rfl
  have hc : ¬(claim c = true ∧ (s.begun c rest i x).sess.claim ≠ some i) := fun hn => hn.2 (hcl hn.1)
  simp only [inSession, hs, hi, Session.nextSeq, if_pos h.next, hb, if_neg hc]

/-- R126 to R132: everything that an accepted command does, in one equation. -/
theorem live_execution_accepted {s : State} {c : Control} {rest : List ControlCell} {i : Fin 4} {x : Session} {op : Option Op}
    {claim : Control → Bool} {own : Control → Fin 4 → State → Done} (h : s.Accepts c rest i x)
    (hop : Op.ofCode c.op = op) (hcl : claim c = true → s.sess.claim = some i) :
    live (execution op (inSession claim own)) s =
      oneEvent (fun u => (u.begun c rest i x).conclude c i (own c i (u.begun c rest i x))) s := by
  rw [live_running h.takes.released]
  simp only [oneEvent]
  have h' := h.withFlags []
  have : ¬ 63 < c.src.toNat := by have := h.sender; omega
  rw [execution_taken h'.takes hop, if_neg this, inSession_accepted h' hcl]

/-- R126 to R132: an accepted command whose own part comes to `t`, to reply `r` and to mark `m`. Its own part is asked for on a state in which
nothing has been handed over yet, as `oneEvent` runs it. -/
theorem live_execution_executed {s t : State} {c : Control} {rest : List ControlCell} {i : Fin 4} {x : Session} {op : Option Op}
    {claim : Control → Bool} {own : Control → Fin 4 → State → Done} {r : Reply} {m : Option RestartKind}
    (h : s.Accepts c rest i x) (hop : Op.ofCode c.op = op) (hcl : claim c = true → s.sess.claim = some i)
    (ht : t.handover.flags = s.handover.flags)
    (hown : ∀ u : State, u = ({ s with handover := { s.handover with flags := [] } } : State) →
      own c i (u.begun c rest i x) =
        { state := { t.begun c rest i x with handover := { t.handover with flags := [] } }, reply := r, mark := m }) :
    live (execution op (inSession claim own)) s = t.executed c rest i x (s.replyCell c r) m := by
  rw [live_execution_accepted h hop hcl]
  simp only [oneEvent, State.conclude, hown _ rfl]
  simp [State.cacheReply, State.begun, State.setSession, State.joinEgress, State.executed, State.answered, State.replyCell]
  rw [← ht]

/-- R126 to R132: an accepted command whose own part changes nothing. -/
theorem live_execution_same {s : State} {c : Control} {rest : List ControlCell} {i : Fin 4} {x : Session} {op : Option Op}
    {claim : Control → Bool} {own : Control → Fin 4 → State → Done} {r : Reply}
    (h : s.Accepts c rest i x) (hop : Op.ofCode c.op = op) (hcl : claim c = true → s.sess.claim = some i)
    (hown : ∀ u : State, u = ({ s with handover := { s.handover with flags := [] } } : State) →
      own c i (u.begun c rest i x) = Done.same (u.begun c rest i x) r) :
    live (execution op (inSession claim own)) s = s.executed c rest i x (s.replyCell c r) :=
  live_execution_executed h hop hcl rfl fun u hu => by rw [hown u hu, hu]; rfl

end Sys2Proof.Machine
end

