-- ==== Sys2Proof/Laws/Slot.lean ====
section
/-! SUPPORT. Purge, selection and the two events of a slot: what each leaves as it was, and what the shared operations can do. -/

namespace Sys2Proof.Machine

@[simp] theorem State.purgeOne_frame (s : State) (q : Fin 8) (c : QueuedCell) (rest : List QueuedCell) :
    (s.purgeOne q c rest).resetHeld = s.resetHeld ∧ (s.purgeOne q c rest).nodeAddress = s.nodeAddress
      ∧ (s.purgeOne q c rest).rx = s.rx ∧ (s.purgeOne q c rest).bank = s.bank
      ∧ (s.purgeOne q c rest).cal = s.cal ∧ (s.purgeOne q c rest).tx = s.tx
      ∧ (s.purgeOne q c rest).port = s.port ∧ (s.purgeOne q c rest).engine = s.engine
      ∧ (s.purgeOne q c rest).sess = s.sess ∧ (s.purgeOne q c rest).settings = s.settings
      ∧ (s.purgeOne q c rest).events = s.events ∧ (s.purgeOne q c rest).pending = s.pending := by
  simp [State.purgeOne]

@[simp] theorem purgeFrom_frame (q : Fin 8) (cs : List QueuedCell) (s : State) :
    (purgeFrom q cs s).resetHeld = s.resetHeld ∧ (purgeFrom q cs s).nodeAddress = s.nodeAddress
      ∧ (purgeFrom q cs s).rx = s.rx ∧ (purgeFrom q cs s).bank = s.bank
      ∧ (purgeFrom q cs s).cal = s.cal ∧ (purgeFrom q cs s).tx = s.tx
      ∧ (purgeFrom q cs s).port = s.port ∧ (purgeFrom q cs s).engine = s.engine
      ∧ (purgeFrom q cs s).sess = s.sess ∧ (purgeFrom q cs s).settings = s.settings
      ∧ (purgeFrom q cs s).events = s.events ∧ (purgeFrom q cs s).pending = s.pending := by
  induction cs generalizing s with
  | nil => simp [purgeFrom]
  | cons c cs ih =>
    unfold purgeFrom
    split
    · simp only [ih, State.purgeOne_frame, and_self]
    · simp

@[simp] theorem State.consult_frame (s : State) (q : Fin 8) :
    (s.consult q).resetHeld = s.resetHeld ∧ (s.consult q).nodeAddress = s.nodeAddress
      ∧ (s.consult q).rx = s.rx ∧ (s.consult q).bank = s.bank
      ∧ (s.consult q).cal = s.cal ∧ (s.consult q).tx = s.tx
      ∧ (s.consult q).port = s.port ∧ (s.consult q).engine = s.engine
      ∧ (s.consult q).sess = s.sess ∧ (s.consult q).settings = s.settings
      ∧ (s.consult q).events = s.events ∧ (s.consult q).pending = s.pending := by
  simp [State.consult]

/-- R79: purging stops at the first cell that is not to be purged. -/
theorem purgeFrom_stop {s : State} {c : QueuedCell} (q : Fin 8) (rest : List QueuedCell) (h : s.purges c = false) :
    purgeFrom q (c :: rest) s = s := by simp [purgeFrom, h]

theorem purgeFrom_purge {s : State} {c : QueuedCell} (q : Fin 8) (rest : List QueuedCell) (h : s.purges c = true) :
    purgeFrom q (c :: rest) s = purgeFrom q rest (s.purgeOne q c rest) := by simp [purgeFrom, h]

/-- R79: after a purge the queue holds a tail of the cells it held, and the other queues and the drop queue are as they were. -/
theorem purgeFrom_queue (q : Fin 8) (cs : List QueuedCell) (s : State) (h : (s.queue q).cells = cs) :
    (∃ gone, cs = gone ++ ((purgeFrom q cs s).queue q).cells) ∧ (∀ p, p ≠ q → (purgeFrom q cs s).queue p = s.queue p)
      ∧ (purgeFrom q cs s).pool.drop = s.pool.drop := by
  induction cs generalizing s with
  | nil => exact ⟨⟨[], by simpa [purgeFrom] using h.symm⟩, fun p _ => rfl, rfl⟩
  | cons c cs ih =>
    by_cases hp : s.purges c = true
    · rw [purgeFrom_purge q cs hp]
      have hq : ((s.purgeOne q c cs).queue q).cells = cs := by simp [State.purgeOne, State.queue]
      obtain ⟨⟨gone, hg⟩, ho, hd⟩ := ih _ hq
      refine ⟨⟨c :: gone, by rw [List.cons_append, ← hg]⟩, fun p hne => ?_, ?_⟩
      · rw [ho p hne]
        simp [State.purgeOne, State.queue, Table.get_set_ne _ _ hne.symm]
      · rw [hd]
        simp [State.purgeOne]
    · rw [purgeFrom_stop q cs (by simpa using hp)]
      exact ⟨⟨[], by simpa using h.symm⟩, fun p _ => rfl, rfl⟩

/-- R80: what taking a head does. -/
theorem State.takeHead_cases (s : State) (q : Fin 8) :
    ((s.queue q).cells = [] ∧ s.takeHead q = (none, s))
      ∨ ∃ c rest, (s.queue q).cells = c :: rest
          ∧ s.takeHead q = (some (.pool c q), (s.setQueue q { s.queue q with cells := rest }).ownerDeparts c.owner) := by
  unfold State.takeHead
  split <;> rename_i h <;> simp [h]

/-- R81: what taking the head of the control egress queue does. -/
theorem State.takeControl_cases (s : State) :
    (s.engine.egress = [] ∧ s.takeControl = (none, s))
      ∨ ∃ c rest, s.engine.egress = c :: rest
          ∧ s.takeControl = (some (.control c), { s with engine := { s.engine with egress := rest } }) := by
  unfold State.takeControl
  split <;> rename_i h <;> simp [h]

@[simp] theorem State.takeHead_frame (s : State) (q : Fin 8) :
    (s.takeHead q).2.resetHeld = s.resetHeld ∧ (s.takeHead q).2.nodeAddress = s.nodeAddress
      ∧ (s.takeHead q).2.rx = s.rx ∧ (s.takeHead q).2.bank = s.bank
      ∧ (s.takeHead q).2.cal = s.cal ∧ (s.takeHead q).2.tx = s.tx
      ∧ (s.takeHead q).2.port = s.port ∧ (s.takeHead q).2.engine = s.engine
      ∧ (s.takeHead q).2.sess = s.sess ∧ (s.takeHead q).2.settings = s.settings
      ∧ (s.takeHead q).2.counters = s.counters ∧ (s.takeHead q).2.events = s.events
      ∧ (s.takeHead q).2.pending = s.pending := by
  unfold State.takeHead; split <;> simp

@[simp] theorem fillFrom_frame (qs : List (Fin 8)) (s : State) :
    (fillFrom qs s).2.resetHeld = s.resetHeld ∧ (fillFrom qs s).2.nodeAddress = s.nodeAddress
      ∧ (fillFrom qs s).2.rx = s.rx ∧ (fillFrom qs s).2.bank = s.bank
      ∧ (fillFrom qs s).2.cal = s.cal ∧ (fillFrom qs s).2.tx = s.tx
      ∧ (fillFrom qs s).2.port = s.port ∧ (fillFrom qs s).2.engine = s.engine
      ∧ (fillFrom qs s).2.sess = s.sess ∧ (fillFrom qs s).2.settings = s.settings
      ∧ (fillFrom qs s).2.events = s.events ∧ (fillFrom qs s).2.pending = s.pending := by
  induction qs generalizing s with
  | nil => simp [fillFrom]
  | cons q qs ih =>
    unfold fillFrom
    split
    · rcases State.takeHead_cases (s.consult q) q with ⟨-, h⟩ | ⟨c, rest, -, h⟩
      · simp only [h, ih, State.consult_frame, and_self]
      · simp [h]
    · simp only [ih, and_self]

end Sys2Proof.Machine
end

