-- ==== Sys2Proof/Tests/Slice0.lean ====
section
/-! SUPPORT. Small tests of single steps, with the values the manual gives, and for every statement with hypotheses a state and operands
that meet them. -/

namespace Sys2Proof.Tests

open Sys2Proof Sys2Proof.Machine

set_option Elab.async false

/-! ### Well-formedness -/

theorem test_wf_accepts : Instr.wellFormed (.markSourceEvent 4095 (some 127)) = true
    ∧ Instr.wellFormed (.cascadeSourceEvent 127 none) = true ∧ Instr.wellFormed (.meterExpiry 127) = true := by decide

theorem test_wf_slot_meter : Instr.wellFormed (.slotSourceEvent (some 128)) = false := by decide

theorem test_wf_mark_label : Instr.wellFormed (.markSourceEvent 4096 none) = false := by decide

theorem test_wf_mark_meter : Instr.wellFormed (.markSourceEvent 1 (some 128)) = false := by decide

theorem test_wf_cascade_origin : Instr.wellFormed (.cascadeSourceEvent 128 none) = false := by decide

theorem test_wf_cascade_meter : Instr.wellFormed (.cascadeSourceEvent 1 (some 128)) = false := by decide

theorem test_wf_expiry_meter : Instr.wellFormed (.meterExpiry 128) = false := by decide

/-! ### Layouts -/

/-- Chapter 10, the worked header check: 20h 00h 00h has the check FCh. -/
theorem test_header_check : headerCheck 0x200000#24 = 0xFC#8 := by decide +kernel

/-- R94: the header of an IDLE cell is 00h 00h 00h 3Ch. -/
theorem test_idle_header : RawCell.idle = { header := 0x0000003C#32, payload := 0 } := by decide +kernel

/-- R178: kind DATA (001), label 0A5h, hop 9, DE, user tag 6. -/
theorem test_header_fields :
    Header.ofWord 0b001_000010100101_1001_1_0110_00000000#32
      = { kind := .data, label := 0x0A5, hop := 9, de := true, tag := 6 } := by decide

/-- R98: a header with a bit in error is bad. -/
theorem test_bad_header : goodHeader 0x200000FC#32 = true ∧ goodHeader 0x200000FD#32 = false ∧ goodHeader 0x300000FC#32 = false := by
  decide +kernel

/-- R179: the bytes of a control payload. -/
theorem test_control_fields :
    Control.ofPayload 0x0102030405060708090A0B0C0D0E0F101112131415161718191A1B1C#224
      = { dest := 0x01, src := 0x02, seq := 0x03, op := 0x04, flags := 0x05, status := 0x06, arg := 0x07, count := 0x08
          index := 0x090A, data := 0x0B0C0D0E0F101112131415161718191A#128 } := by decide

/-- R103: the CRC with polynomial 1021h and initial FFFFh of the nine bytes 31h..39h is 29B1h, the check value usual for it. -/
theorem test_crc16 : crc16Bits 0x313233343536373839#72 72 0xFFFF#16 = 0x29B1#16 := by decide +kernel

/-- R111: word 0 is the header, and word 1 holds payload bytes 0 to 3. -/
theorem test_local_words :
    let c := RawCell.ofWords [0x11111111, 0x22222222, 0x33333333, 0x44444444, 0x55555555, 0x66666666, 0x77777777, 0x88888888]
    c.word 0 = 0x11111111#32 ∧ c.word 1 = 0x22222222#32 ∧ c.word 7 = 0x88888888#32
      ∧ c.payload.extractLsb' 192 32 = 0x22222222#32 := by decide

/-- R181: three codes, and one that names no command. -/
theorem test_op_codes : Op.ofCode 0x05 = some .claim ∧ Op.ofCode 0x24 = some .meterReload ∧ Op.ofCode 0x63 = some .reportRearm
    ∧ Op.ofCode 0x0B = none := by decide

/-! ### Helpers -/

/-- The state a command's outcome holds satisfies `p`. -/
def after (c : Instr) (s : State) (p : State → Bool) : Bool :=
  match exec c s with
  | .next t => p t
  | .fault _ => false
  | .refused _ => false

/-- A payload whose bytes are all zero but for its last bytes. -/
def bytes (n : Nat) : Payload := BitVec.ofNat 224 n

/-- An ACTIVE entry with label 10, queue 2 and hop 9 for local cells. -/
def entry : StreamEntry :=
  { StreamEntry.cleared with label := 10, state := .active, action := .forward, queue := 2, addAllowed := true, addHop := 9 }

/-- One entry in the stream table, at index 0. -/
def oneEntry (e : StreamEntry) : State := { State.reset with streams := State.reset.streams.set 0 e }

/-- The labels of a table with one entry are unique (L3). -/
theorem oneEntry_LawL3 (e : StreamEntry) : (oneEntry e).LawL3 := by
  intro i j hi hj _
  by_cases h0 : (0 : Fin 256) = i <;> by_cases h1 : (0 : Fin 256) = j
  · omega
  · simp [oneEntry, Table.get_set_ne _ _ h1, State.reset, StreamEntry.cleared] at hj
  · simp [oneEntry, Table.get_set_ne _ _ h0, State.reset, StreamEntry.cleared] at hi
  · simp [oneEntry, Table.get_set_ne _ _ h0, State.reset, StreamEntry.cleared] at hi

/-- After reset no entry but FREE ones stands in the table. -/
theorem reset_no_entry (l : BitVec 12) :
    ∀ j, (State.reset.streams.get j).state ≠ .free → (State.reset.streams.get j).label ≠ l := by
  intro j h
  exact absurd (by simp [State.reset, StreamEntry.cleared]) h

/-- `s` with a cell in reception whose header word is `w`. -/
def receiving (s : State) (w : Word) : State := { s with rx := { s.rx with state := .sync, arriving := some w } }

/-- A header word with the given kind, label and hop. -/
def headerOf (kind : Kind) (label : BitVec 12) (hop : BitVec 4) : Word :=
  Header.toWord { kind := kind, label := label, hop := hop, de := false, tag := 0 }

/-- A control payload with a good CHECK, from node 5. -/
def control (dest flags op : Byte) : Payload :=
  Control.toPayload
    { dest := dest, src := 5, seq := 8, op := op, flags := flags, status := 0, arg := 0, count := 0, index := 0, data := 0 }

/-- The session of manager node 5, whose last SEQ is 7. -/
def session : Session := { manager := 5, lastSeq := 7, cached := { header := .idle, payload := 0 }, idleTimer := 3 }

/-- A command from node 5 with SEQ 8. -/
def command (op arg count : Byte) (index : BitVec 16) (data : BitVec 128) : Control :=
  { dest := 0, src := 5, seq := 8, op := op, flags := 0, status := 0, arg := arg, count := count, index := index, data := data }

/-- `s` with `c` in intake. -/
def withIntake (s : State) (c : Control) : State :=
  { s with engine := { s.engine with intake := [{ header := .idle, payload := c.toPayload }] } }

/-- `s` with `c` in intake, and the session of node 5, which holds the claim, in entry 0. -/
def ready (s : State) (c : Control) : State :=
  { withIntake s c with sess := { entries := s.sess.entries.set 0 (some session), claim := some 0 } }

/-- The reply that joined the control egress queue last. -/
def reply (t : State) : Option Control := t.engine.egress.getLast?.map fun c => Control.ofPayload c.cell.payload

/-- Whether the last reply carries this status, ARG and DATA word 0. -/
def replied (t : State) (status arg : Byte) (word0 : Word) : Bool :=
  match reply t with
  | some k => k.status == status && k.arg == arg && k.word 0 == word0
  | none => false

/-- An intake whose one command is `c` lets it be taken. -/
theorem takes {s : State} {c : Control} (h : s.resetHeld = false) (hp : s.engine.restartPending = false)
    (he : s.engine.egress = []) (hd : Control.ofPayload c.toPayload = c) : (withIntake s c).Takes c [] :=
  ⟨h, hp, by simp [withIntake, he], ⟨_, rfl, hd⟩⟩

/-- A command with SEQ 8 from node 5 is accepted in its session, which holds the claim. -/
theorem accepts {s : State} {c : Control} (h : s.resetHeld = false) (hp : s.engine.restartPending = false)
    (he : s.engine.egress = []) (hd : Control.ofPayload c.toPayload = c) (hs : c.src = 5) (hq : c.seq = 8) :
    (ready s c).AcceptsClaimed c [] 0 session := by
  refine ⟨⟨⟨h, hp, by simp [ready, withIntake, he], ⟨_, rfl, hd⟩⟩, by rw [hs]; decide, ?_, by simp [ready], by rw [hq]; decide⟩, rfl⟩
  rw [hs]
  exact Table.find?_eq_some.2 ⟨by simp [ready, session], by intro j hj; omega⟩

/-- The same over the state after reset. -/
theorem accepts_reset {c : Control} (hd : Control.ofPayload c.toPayload = c) (hs : c.src = 5) (hq : c.seq = 8) :
    (ready .reset c).AcceptsClaimed c [] 0 session := accepts rfl rfl rfl hd hs hq

/-! ### Resets and delineation -/

theorem witness_StepRunsTheFrontCommand : ({ State.reset with pending := [.ping, .slotEvent] } : State).pending = [.ping, .slotEvent] := rfl

theorem witness_EveryCommandAnswersNext : State.reset.pending = [] := rfl

/-- The held part, as POWER_ON leaves it. -/
def held : State := State.reset.powerOn

/-- A slot that carries `c`. -/
def carrying (s : State) (c : TxCell) : State := { s with cal := { s.cal with inTx := some c } }

/-- A reply cell in the control egress queue or in a slot. -/
def replyCell (mark : Option RestartKind) : EgressCell :=
  { cell := { header := { kind := .control, label := 0, hop := 15, de := false, tag := 0 }, payload := control 5 0x80 0x0A }
    producer := .reply, mark := mark }

theorem witness_NoOccasionNoEffect :
    held.resetHeld = true ∧ (∀ x, Instr.ping ≠ .resetPinRelease x) ∧ Instr.ping ≠ .powerOn ∧ State.reset.resetHeld = false
      ∧ State.reset.rx.boundary = none ∧ (receiving .reset 0).rx.arriving ≠ none ∧ State.reset.rx.arriving = none
      ∧ State.reset.handover.sources = [] ∧ State.reset.port.completed = [] ∧ (carrying .reset .idle).cal.inTx ≠ none
      ∧ State.reset.cal.inTx = none ∧ State.reset.handover.sessionTicks = 0 ∧ State.reset.handover.eventTicks = 0
      ∧ EventFlag.syncLost ∉ State.reset.handover.flags ∧ State.reset.handover.reportsSent = [] :=
  ⟨rfl, by simp, by decide, rfl, rfl, by decide, rfl, rfl, rfl, by decide, rfl, rfl, rfl, by decide, rfl⟩

theorem witness_ReleaseStartsThePart : held.resetHeld = true := rfl

theorem test_release_samples_straps :
    after (.resetPinRelease 37) held (fun t => t.nodeAddress == 37 && t.port.addSpacePin && !t.resetHeld) = true := by decide +kernel

theorem test_power_on_holds : after .powerOn (oneEntry entry) (fun t => t.resetHeld && decide (t.lookup 10 = none)) = true := by
  decide +kernel

/-- R101: the node address is held between samplings. -/
theorem test_power_on_holds_node_address :
    after .powerOn { State.reset with nodeAddress := 12 } (fun t => t.nodeAddress == 12) = true := by decide +kernel

theorem witness_RestartTrafficEffect :
    let s := carrying { oneEntry { entry with state := .retiring } with cal := { Calendar.powerOn with commitPending := true } }
      (.control (replyCell (some .traffic)))
    s.resetHeld = false ∧ s.cal.inTx = some (.control (replyCell (some .traffic)))
      ∧ (replyCell (some .traffic)).mark = some .traffic ∧ (replyCell (some .traffic)).producer = .reply := ⟨rfl, rfl, rfl, rfl⟩

theorem witness_RestartAllEffect :
    let s := carrying State.reset (.control (replyCell (some .all)))
    s.resetHeld = false ∧ s.cal.inTx = some (.control (replyCell (some .all))) ∧ (replyCell (some .all)).mark = some .all
      ∧ (replyCell (some .all)).producer = .reply := ⟨rfl, rfl, rfl, rfl⟩

/-- R147, R93, R26: the completion is counted, the banks exchange roles, and the RETIRING entry is freed. -/
theorem test_restart_traffic :
    after (.slotCompletion 9) (carrying { oneEntry { entry with state := .retiring, queued := 1 } with
        cal := { Calendar.powerOn with commitPending := true } } (.control (replyCell (some .traffic))))
      (fun t => t.cal.active == .b && t.counters.device.get 13 == 1 && t.nodeAddress == 0
        && t.handover.flags == [.calendarSwapped, .streamRetired, .restarted] && t.engine.lastReset == .traffic) = true := by
  decide +kernel

/-- R101, R147, R148: RESTART ALL samples the straps and clears the count of its own completion. -/
theorem test_restart_all :
    after (.slotCompletion 9) (carrying (oneEntry entry) (.control (replyCell (some .all))))
      (fun t => t.nodeAddress == 9 && t.counters.device.get 13 == 0 && t.engine.lastReset == .all
        && decide (t.lookup 10 = none)) = true := by decide +kernel

/-- A receiver in HUNT that has received these bytes. -/
def hunting (window : List Byte) : State := { State.reset with rx := { State.reset.rx with window := window, position := 3 } }

theorem witness_HuntTestsEveryWindow :
    (receiving .reset 0).rx.state ≠ .hunt ∧ (hunting [0, 0]).rx.state = .hunt ∧ (hunting [0, 0]).rx.window.length < 3
      ∧ (hunting [0x77, 0, 0, 0]).rx.window = [0x77] ++ [0, 0, 0] ∧ goodHeader (0#8 ++ 0#8 ++ 0#8 ++ 0x3C#8) = true
      ∧ goodHeader (0#8 ++ 0#8 ++ 0#8 ++ 0#8) = false := by decide +kernel

/-- R96: the window 00h 00h 00h 3Ch enters PRESYNC, and the boundary is 32 bytes on. -/
theorem test_hunt_finds_idle :
    after (.huntWindowTest 0x3C) (hunting [0x77, 0, 0, 0])
      (fun t => t.rx.state == .presync && t.rx.boundary == some 36 && t.rx.goodRun == 0) = true := by decide +kernel

/-- A receiver at a boundary that ends at byte 100. -/
def atBoundary (state : RxState) (good bad : Nat) : State :=
  { State.reset with rx := { State.reset.rx with state := state, goodRun := good, badRun := bad, boundary := some 100 } }

theorem witness_HeaderTestAtTheBoundary :
    let ok (s : State) : Bool := !s.resetHeld && s.rx.boundary == some 100 && s.rx.arriving == none
    ok (atBoundary .presync 4 0) ∧ (atBoundary .presync 4 0).rx.goodRun + 1 < 6 ∧ ok (atBoundary .presync 5 0)
      ∧ (atBoundary .presync 5 0).rx.goodRun + 1 = 6 ∧ ok (atBoundary .sync 6 5) ∧ (atBoundary .sync 6 5).rx.badRun + 1 < 7
      ∧ (atBoundary .sync 6 6).rx.badRun + 1 = 7 ∧ goodHeader 0x3C = true ∧ goodHeader 0 = false := by decide +kernel

/-- R97: the sixth good header gains sync. -/
theorem test_sixth_good_header :
    after (.headerTest 0x3C) (atBoundary .presync 5 0) (fun t => t.rx.state == .sync && t.handover.flags == [.syncGained]) = true := by
  decide +kernel

/-- R98: the seventh bad header loses the framing, and counts both. -/
theorem test_seventh_bad_header :
    after (.headerTest 0) (atBoundary .sync 6 6) (fun t => t.rx.state == .hunt && t.rx.boundary == none
      && t.counters.device.get 0 == 1 && t.counters.device.get 1 == 1) = true := by decide +kernel

/-! ### Ring cells -/

/-- Intake holding `n` cells, and the control egress queue `m`. -/
def filled (n m : Nat) : State :=
  { State.reset with engine := { State.reset.engine with
    intake := List.replicate n { header := .idle, payload := 0 }, egress := List.replicate m (replyCell none) } }

theorem witness_ControlCellRouting :
    let w := headerOf .control 0 1
    let w0 := headerOf .control 0 0
    let here (p : Payload) : Bool := !(Control.ofPayload p).broadcastFlag && (Control.ofPayload p).dest == 0
    let away (p : Payload) : Bool := ((Control.ofPayload p).broadcastFlag && ((Control.ofPayload p).replyFlag || (Control.ofPayload p).op != 1))
      || (!(Control.ofPayload p).broadcastFlag && (Control.ofPayload p).dest != 0)
    let whole (p : Payload) : Bool := (Control.ofPayload p).broadcastFlag && !(Control.ofPayload p).replyFlag && (Control.ofPayload p).op == 1
    (Header.ofWord w).kind = .control ∧ (Header.ofWord w).hop ≠ 0 ∧ (Header.ofWord w0).kind = .control ∧ (Header.ofWord w0).hop = 0
      ∧ (receiving .reset w).resetHeld = false ∧ (receiving .reset w).rx.arriving = some w
      ∧ here (control 0 0x80 4) ∧ (Control.ofPayload (control 0 0x80 4)).replyFlag = true
      ∧ here (bytes 1) ∧ (Control.ofPayload (bytes 1)).replyFlag = false ∧ goodPayload (bytes 1) = false
      ∧ here (control 0 0 4) ∧ (Control.ofPayload (control 0 0 4)).replyFlag = false ∧ goodPayload (control 0 0 4) = true
      ∧ 4 ≤ (filled 4 0).engine.intake.length ∧ (filled 3 0).engine.intake.length < 4
      ∧ away (control 1 0 4) ∧ away (control 0 0x40 4) ∧ away (control 0 0xC0 1)
      ∧ (filled 0 7).engine.egress.length < 8 ∧ 8 ≤ (filled 0 8).engine.egress.length
      ∧ whole (control 0 0x40 1) ∧ goodPayload (control 0 0x40 1) = true ∧ whole (bytes (2 ^ 184 * 0x40 + 2 ^ 192))
      ∧ goodPayload (bytes (2 ^ 184 * 0x40 + 2 ^ 192)) = false := by decide +kernel

/-- R102: a broadcast DISCOVER goes to intake and, with its hop reduced, to transit. -/
theorem test_broadcast_discover :
    after (.ringCellArrival (control 0 0x40 1)) (receiving .reset (headerOf .control 0 4))
      (fun t => t.engine.intake.length == 1 && t.engine.egress.map (·.cell.header.hop) == [3]) = true := by decide +kernel

theorem witness_RingCellDiscarded :
    let s (e : StreamEntry) := receiving (oneEntry e) (headerOf .data 10 0)
    (s entry).resetHeld = false ∧ (s entry).rx.arriving = some (headerOf .data 10 0)
      ∧ (Header.ofWord (headerOf .data 10 0)).kind = .data ∧ (Header.ofWord (headerOf .data 10 0)).hop = 0
      ∧ ((s entry).streams.get 0).label = (Header.ofWord (headerOf .data 10 0)).label
      ∧ ((s { entry with state := .retiring }).streams.get 0).state = .retiring
      ∧ ((s { entry with action := .discard }).streams.get 0).action = .discard
      ∧ ((s entry).streams.get 0).state = .active ∧ ((s entry).streams.get 0).action = .forward
      ∧ (Header.ofWord (headerOf .idle 0 0)).kind = .idle ∧ 4 ≤ ((headerOf .unknown4 0 0).extractLsb' 29 3).toNat
      ∧ State.reset.settings.unknownPolicy = .forward
      ∧ ({ State.reset.settings with unknownPolicy := .discard } : Settings).unknownPolicy = .discard := by decide +kernel

theorem witness_RingCellDiscarded_laws :
    (receiving (oneEntry entry) 0).LawL3
      ∧ ∀ j, ((receiving .reset 0).streams.get j).state ≠ .free → ((receiving .reset 0).streams.get j).label ≠ 10 :=
  ⟨oneEntry_LawL3 entry, reset_no_entry 10⟩

/-- The hypotheses of each clause, with a hop to spend and, at DROP and COPY, with none. -/
theorem witness_RingCellOffered :
    let s (a : Action) := receiving (oneEntry { entry with action := a }) (headerOf .mark 10 1)
    (receiving (oneEntry { entry with action := .copy }) (headerOf .data 10 0)).rx.arriving = some (headerOf .data 10 0) ∧
    (Header.ofWord (headerOf .data 10 0)).kind = .data ∧ (Header.ofWord (headerOf .data 10 0)).hop = 0 ∧
    (s .forward).resetHeld = false ∧ (s .forward).rx.arriving = some (headerOf .mark 10 1)
      ∧ (Header.ofWord (headerOf .mark 10 1)).kind = .mark ∧ (Header.ofWord (headerOf .mark 10 1)).hop ≠ 0
      ∧ ((s .forward).streams.get 0).label = (Header.ofWord (headerOf .mark 10 1)).label
      ∧ ((s .forward).streams.get 0).state = .active ∧ ((s .forward).streams.get 0).action = .forward
      ∧ ((s .drop).streams.get 0).action = .drop ∧ ((s .copy).streams.get 0).action = .copy := by decide +kernel

/-- R11: COPY takes a buffer for each part, and the forward part joins the entry's queue. -/
theorem test_copy_cell :
    after (.ringCellArrival 0) (receiving (oneEntry { entry with action := .copy }) (headerOf .data 10 1))
      (fun t => t.pool.free == 510 && t.pool.drop.length == 1 && (t.queue 2).depth == 1 && (t.streams.get 0).queued == 1
        && (t.counters.streams.get 0).arrived == 1) = true := by decide +kernel

/-- R8, R11: a COPY cell with hop 0 is dropped to the equipment, and its forward part is HOP_EXPIRED. -/
theorem test_copy_cell_hop_0 :
    after (.ringCellArrival 0) (receiving (oneEntry { entry with action := .copy }) (headerOf .data 10 0))
      (fun t => t.pool.drop.length == 1 && (t.queue 2).depth == 0 && t.counters.device.get 2 == 1
        && (t.counters.streams.get 0).discardedOther == 1 && t.handover.flags == [.hopExpired]) = true := by decide +kernel

/-- R6: a cell of no entry joins *unknown queue*, without an owner. -/
theorem test_unknown_label :
    after (.ringCellArrival 0) (receiving .reset (headerOf .data 11 3))
      (fun t => (t.queue 7).cells.map (·.owner) == [none] && t.counters.device.get 3 == 1 && t.handover.flags == [.unknownLabel])
      = true := by decide +kernel

/-- A DE cell of no owner. -/
def deCell : QueuedCell := { header := { kind := .data, label := 10, hop := 3, de := true, tag := 0 }, payload := 0, owner := none }

/-- An egress queue of `n` cells. -/
def queueOf (limit threshold n : Nat) : State :=
  State.reset.setQueue 2 { limit := limit, deThreshold := threshold, fill := true, cells := List.replicate n deCell }

theorem witness_EgressAdmission :
    ((queueOf 2 1 2).pool.queues.get 2).limit ≤ ((queueOf 2 1 2).pool.queues.get 2).cells.length
      ∧ ((queueOf 2 1 1).pool.queues.get 2).cells.length < ((queueOf 2 1 1).pool.queues.get 2).limit
      ∧ ((queueOf 2 1 1).pool.queues.get 2).deThreshold ≤ ((queueOf 2 1 1).pool.queues.get 2).cells.length
      ∧ ((queueOf 2 1 0).pool.queues.get 2).cells.length < ((queueOf 2 1 0).pool.queues.get 2).deThreshold
      ∧ ({ (queueOf 2 1 0).pool with free := 0 } : Pool).free = 0 ∧ 0 < (queueOf 2 1 0).pool.free := by decide +kernel

theorem witness_DropAdmission :
    ({ State.reset.settings with dropLimit := 0 } : Settings).dropLimit ≤ State.reset.pool.drop.length
      ∧ State.reset.pool.drop.length < State.reset.settings.dropLimit ∧ ({ State.reset.pool with free := 0 } : Pool).free = 0
      ∧ 0 < State.reset.pool.free := by decide +kernel

/-- Meter 3 with a credit and a partner, and meter 9 with another credit. -/
def metered (credit : Nat) (partner : Option (Fin 128)) (other : Nat) : State :=
  (State.reset.setMeter 3 { Meter.powerOn with limit := 2, credit := credit, partner := partner }).setMeter 9
    { Meter.powerOn with credit := other }

theorem witness_PolicedAdmission :
    entry.meter = none ∧ ({ entry with meter := some 3 } : StreamEntry).meter = some 3
      ∧ ((metered 0 none 1).bank.meters.get 3).credit = 0
      ∧ 1 ≤ ((metered 1 none 1).bank.meters.get 3).credit ∧ ((metered 1 none 1).bank.meters.get 3).partner = none
      ∧ ((metered 1 (some 9) 0).bank.meters.get 3).partner = some 9 ∧ ((metered 1 (some 9) 0).bank.meters.get 9).credit = 0
      ∧ 1 ≤ ((metered 1 (some 9) 1).bank.meters.get 9).credit := by decide +kernel

/-! ### Meters -/

/-- A meter of limit 5, increment 9 and period 2. -/
def meterOf (counter : Nat) (source : Source) : Meter :=
  { Meter.powerOn with limit := 5, increment := 9, period := 2, counter := counter, source := source }

/-- A source event on its way to meters 0 and 3, and meter 3 with this counter and source. -/
def onItsWay (o : Origin) (counter : Nat := 2) (source : Source := .slots .d1) : State :=
  let s := State.reset.setMeter 3 (meterOf counter source)
  { s with handover := { Handover.empty with sources := [{ origin := o, targets := [0, 3] }] } }

theorem witness_SourceEventAtAMeter :
    let x := (onItsWay (.slot 0)).bank.meters.get 3
    ({ x with running := false } : Meter).running = false ∧ x.running = true ∧ x.source = .slots .d1
      ∧ (0#9).toNat % Divider.d1.toNat = 0 ∧ 1 < x.counter ∧ (Meter.powerOn).counter = 1
      ∧ ¬ ((3#9).toNat % Divider.d512.toNat = 0) := by decide +kernel

theorem witness_SourceEventTaken :
    let s := onItsWay (.slot 0)
    s.resetHeld = false ∧ s.handover.sources = { origin := .slot 0, targets := [0, 3] } :: [] ∧ (0 : Fin 128) ∈ [0, (3 : Fin 128)]
      ∧ (s.bank.meters.get 0).running = true ∧ (s.bank.meters.get 0).counter = 1
      ∧ (s.bank.meters.get 0).source.matches (.slot 0) = true
      ∧ (onItsWay (.mark 7)).handover.sources = { origin := .mark 7, targets := [0, 3] } :: []
      ∧ (onItsWay (.cascade 1)).handover.sources = { origin := .cascade 1, targets := [0, 3] } :: [] := by decide +kernel

/-- A slot source event behind a MARK one, and behind a slot one that is not on its way to meter 3. -/
def behind : State :=
  let s := onItsWay (.slot 0)
  { s with handover := { s.handover with
    sources := [{ origin := .mark 7, targets := [3] }, { origin := .slot 1, targets := [5] }, { origin := .slot 2, targets := [0, 3] }] } }

theorem witness_SourceEventTaken_behind :
    behind.resetHeld = false
      ∧ behind.handover.sources =
          [{ origin := .mark 7, targets := [3] }, { origin := .slot 1, targets := [5] }] ++ { origin := .slot 2, targets := [0, 3] } :: []
      ∧ (∀ e ∈ [({ origin := .mark 7, targets := [3] } : SourceEvent)], ∀ x, e.origin ≠ .slot x)
      ∧ (∀ e ∈ [({ origin := .mark 7, targets := [3] } : SourceEvent), { origin := .slot 1, targets := [5] }],
          ∀ x, e.origin = .slot x → (3 : Fin 128) ∉ e.targets) := by
  refine ⟨rfl, rfl, by simp, by simp⟩

/-- R28: the oldest slot source event on its way to meter 3 is taken there, and the others stay on their way. -/
theorem test_slot_source_behind : after (.slotSourceEvent (some 3)) behind (fun t => (t.meter 3).counter == 1
    && decide (t.handover.sources = [{ origin := .mark 7, targets := [3] }, { origin := .slot 1, targets := [5] },
        { origin := .slot 2, targets := [0] }])) = true := by decide +kernel

/-- R32: a counter above 1 falls, and another meter's counter of 1 expires. -/
theorem test_slot_source_everywhere :
    after (.slotSourceEvent none) (onItsWay (.slot 0)) (fun t => (t.meter 3).counter == 1 && (t.meter 3).credit == 1
      && (t.meter 0).counter == 1 && decide (t.handover.sources = [])) = true := by decide +kernel

theorem test_slot_source_at_one_meter :
    after (.slotSourceEvent (some 3)) (onItsWay (.slot 0)) (fun t => (t.meter 3).counter == 1
      && decide (t.handover.sources = [{ origin := .slot 0, targets := [0] }])) = true := by decide +kernel

/-- R30: a MARK source event does not count at a SLOTS meter (R28). -/
theorem test_mark_source : after (.markSourceEvent 7 none) (onItsWay (.mark 7))
    (fun t => (t.meter 3).counter == 2 && decide (t.handover.sources = [])) = true := by decide +kernel

/-- R31, R32: the credit after an expiry is bounded by the limit. -/
theorem test_cascade_source :
    after (.cascadeSourceEvent 1 none) (onItsWay (.cascade 1) 1 (.cascade 1))
      (fun t => (t.meter 3).counter == 2 && (t.meter 3).credit == 5) = true := by decide +kernel

theorem test_meter_expiry : after (.meterExpiry 0) (onItsWay (.slot 0)) (fun t => (t.meter 0).counter == 1
    && decide (t.handover.sources = [{ origin := .slot 0, targets := [3] }])) = true := by decide +kernel

/-! ### Local Port -/

/-- The add side with an open cell and `n` completed cells. -/
def addSide (open_ : OpenCell) (n : Nat) : State :=
  { State.reset with port := { LocalPort.powerOn with openCell := open_, completed := List.replicate n .idle } }

theorem witness_AddSideWords :
    (addSide .none 3).resetHeld = false ∧ (addSide .none 3).port.openCell = .none ∧ (addSide .none 3).port.completed.length < 4
      ∧ 4 ≤ (addSide .none 4).port.completed.length ∧ (addSide (.placed [1]) 3).port.openCell = .placed [1]
      ∧ (addSide (.broken 7) 3).port.openCell = .broken 7 ∧ (addSide (.broken 7) 4).port.openCell = .broken 7
      ∧ (List.replicate 6 (0 : Word)).length < 7 ∧ (List.replicate 7 (0 : Word)).length = 7
      ∧ (addSide (.placed (List.replicate 7 0)) 0).port.openCell = .placed (List.replicate 7 0)
      ∧ (addSide (.broken 6) 0).port.openCell = .broken 6 ∧ 6 < 7 := by decide +kernel

/-- R113: a word with ADD_FIRST high cuts a placed cell and opens another, and counts once. -/
theorem test_add_first_cuts : after (.addWordFirst 5) (addSide (.placed [1, 2]) 3)
    (fun t => decide (t.port.openCell = .placed [5]) && t.counters.device.get 10 == 1 && t.handover.flags == [.addRefused]) = true := by
  decide +kernel

/-- R113: with four slots in use the cell is opened broken. -/
theorem test_add_first_broken : after (.addWordFirst 5) (addSide .none 4) (fun t => decide (t.port.openCell = .broken 1)
    && !t.port.addSpacePin) = true := by decide +kernel

/-- R115: the eighth word completes a cell. -/
theorem test_eighth_word : after (.addWordContinue 8) (addSide (.placed [1, 2, 3, 4, 5, 6, 7]) 0)
    (fun t => decide (t.port.openCell = .none) && t.port.completed.map (·.word 7) == [8]) = true := by decide +kernel

/-- R114: a stray word. -/
theorem test_stray_word : after (.addWordContinue 8) (addSide .none 0) (fun t => t.counters.device.get 10 == 1) = true := by
  decide +kernel

/-- `s` with one completed cell in staging, whose header word is `w`. -/
def staged (s : State) (w : Word) : State :=
  { s with port := { s.port with completed := [{ header := w, payload := 0 }] } }

theorem witness_LocalCellArrival :
    let w := headerOf .data 10 0
    let s (e : StreamEntry) := staged (oneEntry e) w
    (s entry).resetHeld = false ∧ (s entry).port.completed = { header := w, payload := 0 } :: []
      ∧ (Header.ofWord w).kind = .data ∧ (Header.ofWord (headerOf .mark 10 0)).kind ≠ .data
      ∧ ((s entry).streams.get 0).label = (Header.ofWord w).label ∧ ((s entry).streams.get 0).state = .active
      ∧ ((s entry).streams.get 0).addAllowed = true
      ∧ ((s { entry with addAllowed := false }).streams.get 0).addAllowed = false
      ∧ ((s { entry with state := .retiring }).streams.get 0).state = .retiring := by decide +kernel

/-- R15: an accepted local cell takes the entry's add-hop. -/
theorem test_local_cell_accepted : after .localCellArrival (staged (oneEntry entry) (headerOf .data 10 0))
    (fun t => (t.queue 2).cells.map (·.header.hop) == [9] && t.port.completed.isEmpty
      && (t.counters.streams.get 0).arrived == 1) = true := by decide +kernel

/-- R14: a MARK cell is refused at the add side. -/
theorem test_local_mark_refused : after .localCellArrival (staged (oneEntry entry) (headerOf .mark 10 0))
    (fun t => t.counters.device.get 10 == 1 && t.pool.free == 512) = true := by decide +kernel

/-- A drop queue of one cell, delivered up to word `k`. -/
def dropping (k : Nat) : State :=
  { State.reset with
    pool := { State.reset.pool with free := 511, drop := [RawCell.ofWords [10, 11, 12, 13, 14, 15, 16, 17]] }
    port := { State.reset.port with deliveryPosition := k } }

theorem witness_DropTakePresentsWords :
    (dropping 6).resetHeld = false ∧ State.reset.pool.drop = [] ∧ (dropping 6).pool.drop ≠ [] ∧ (dropping 6).port.deliveryPosition < 7
      ∧ (dropping 7).port.deliveryPosition = 7 := by decide +kernel

theorem test_drop_take_first : after .dropTake (dropping 0) (fun t => t.port.presented == 10 && t.port.dropFirst
    && t.port.dropAvailPin) = true := by decide +kernel

theorem test_drop_take_last : after .dropTake (dropping 7) (fun t => t.port.presented == 17 && !t.port.dropFirst
    && t.pool.free == 512 && t.pool.drop.isEmpty && !t.port.dropAvailPin) = true := by decide +kernel

/-! ### The slot -/

/-- Q2 holding `cells`, and a bank A whose one entry is `e`. -/
def scheduled (e : CalEntry) (cells : List QueuedCell) (s : State) : State :=
  { s.setQueue 2 { EgressQueue.powerOn with cells := cells } with
    cal := { Calendar.powerOn with bankA := { Bank.powerOn with entries := Bank.powerOn.entries.set 0 e } } }

/-- A DATA cell of entry 0. -/
def ownCell : QueuedCell := { deCell with owner := some 0 }

/-- The purging owner of one cell in Q2, whose entry is RETIRING, and a cell of no owner behind it. -/
def purging (e : CalEntry) (cells : List QueuedCell) : State :=
  scheduled e cells (oneEntry { entry with state := .retiring, purge := true, queued := 1 })

/-- The hypotheses of each clause of SlotCarries: a control cell; a head behind a purged one, at FIXED, PREFERRED and OPEN entries; and queues
that are empty, one of them once its head is purged. -/
theorem witness_SlotCarries :
    let e (s : State) := s.cal.activeBank.entries.get (Fin.ofNat 256 s.cal.position)
    let cells (s : State) (q : Fin 8) := (s.pool.queues.get q).cells
    let all (s : State) := (List.finRange 8).foldl State.consult s
    (filled 0 1).resetHeld = false ∧ (filled 0 1).cal.inTx = none ∧ (e (filled 0 1)).kind ≠ .fixed
      ∧ (filled 0 1).engine.egress = replyCell none :: []
      ∧ (∀ k ∈ [SlotKind.fixed, .preferred, .open_], (e (purging ⟨k, 2⟩ [ownCell, deCell])).kind = k
          ∧ cells ((purging ⟨k, 2⟩ [ownCell, deCell]).consult 2) 2 = deCell :: []
          ∧ cells ((purging ⟨k, 2⟩ [ownCell]).consult 2) 2 = [])
      ∧ (purging ⟨.open_, 0⟩ [ownCell, deCell]).engine.egress = []
      ∧ (List.finRange 8).all (fun q => ((purging ⟨.open_, 0⟩ [ownCell, deCell]).pool.queues.get q).fill)
      ∧ (List.finRange 8).all (fun q => (cells (all (purging ⟨.open_, 0⟩ [ownCell])) q).isEmpty)
      ∧ cells (all (purging ⟨.open_, 0⟩ [ownCell, deCell])) 2 = deCell :: [] := by decide +kernel

/-- R78, R79: fill goes on past a queue whose only head is purged. -/
theorem test_fill_past_a_purge :
    let s := (purging ⟨.open_, 0⟩ [ownCell]).setQueue 5 { EgressQueue.powerOn with cells := [deCell] }
    after .slotEvent s (fun t => decide (t.cal.inTx = some (.pool deCell 5)) && t.counters.device.get 11 == 1) = true := by
  decide +kernel

theorem witness_SlotEventBookkeeping :
    State.reset.resetHeld = false ∧ State.reset.cal.inTx = none ∧ ¬ State.reset.cal.position + 1 < State.reset.cal.activeBank.length
      ∧ State.reset.cal.commitPending = false ∧ ({ Calendar.powerOn with commitPending := true } : Calendar).commitPending = true
      ∧ ({ Calendar.powerOn with bankA := { Bank.powerOn with length := 2 } } : Calendar).position + 1
          < ({ Calendar.powerOn with bankA := { Bank.powerOn with length := 2 } } : Calendar).activeBank.length := by decide +kernel

theorem witness_FixedSlotKeepsItsQueue :
    let s := purging ⟨.fixed, 2⟩ [ownCell, deCell]
    s.resetHeld = false ∧ s.cal.inTx = none ∧ (s.cal.activeBank.entries.get (Fin.ofNat 256 s.cal.position)).kind = .fixed := by
  decide +kernel

theorem witness_FixedSlotKeepsItsQueue_law : (purging ⟨.fixed, 2⟩ [ownCell, deCell]).LawL4 := by
  unfold State.LawL4; decide +kernel

/-- A purge with its owner's last cell, and one that leaves its owner a cell. -/
theorem witness_PurgeAtTheHead :
    ownedIn 0 [ownCell] = 1 ∧ ((purging ⟨.fixed, 2⟩ [ownCell]).streams.get 0).queued = 1
      ∧ ownedIn 0 [ownCell] < ((scheduled ⟨.fixed, 2⟩ [ownCell]
          (oneEntry { entry with state := .retiring, purge := true, queued := 2 })).streams.get 0).queued
      ∧ ((oneEntry entry).streams.get 0).state = .active := by decide +kernel

/-- R77, R106: a FIXED slot takes its queue's head and sends it with its hop reduced. -/
theorem test_fixed_slot : after .slotEvent (scheduled ⟨.fixed, 2⟩ [deCell] (filled 0 1))
    (fun t => decide (t.cal.inTx = some (.pool deCell 2)) && t.engine.egress.length == 1
      && decide (t.tx.outgoing = some (Header.rawCell { deCell.header with hop := 2 } 0))) = true := by decide +kernel

/-- R79, R18: a purged head uses no slot, and its entry is freed. -/
theorem test_purge : after .slotEvent
    (purging ⟨.fixed, 2⟩ [ownCell, deCell])
    (fun t => decide (t.cal.inTx = some (.pool deCell 2)) && t.counters.device.get 11 == 1
      && t.handover.flags == [.streamRetired] && decide ((t.streams.get 0).state = .free)) = true := by decide +kernel

theorem witness_SlotCompletion :
    let ok (c : TxCell) : Bool := !(carrying .reset c).resetHeld && decide ((carrying .reset c).cal.inTx = some c)
    ok (.pool deCell 2) ∧ ok (.control (replyCell none)) ∧ (replyCell none).mark = none ∧ (replyCell none).producer ≠ .report
      ∧ ok (.control { replyCell none with producer := .report }) ∧ ok .idle := by decide +kernel

/-- R84, R107: a pool cell's completion. -/
theorem test_pool_completion : after (.slotCompletion 0) (carrying .reset (.pool deCell 2))
    (fun t => t.pool.free == 513 && (t.counters.queues.get 2).sent == 1 && t.counters.device.get 13 == 1
      && decide (t.cal.inTx = none)) = true := by decide +kernel

/-! ### Ticks, flags and reports -/

/-- A session in entry 0 with this idle timer, which holds the claim, and a tick on its way. -/
def ticking (idle : Nat) : State :=
  { State.reset with
    sess := { entries := State.reset.sess.entries.set 0 (some { session with idleTimer := idle }), claim := some 0 }
    handover := { Handover.empty with sessionTicks := 1, eventTicks := 1 } }

theorem witness_SessionTick : (ticking 1999).resetHeld = false ∧ 0 < (ticking 1999).handover.sessionTicks := by decide +kernel

/-- R133: at the timeout of 2000 the session ends and its claim is free. -/
theorem test_session_expiry : after .sessionExpiry (ticking 1999) (fun t => t.openSessions == 0 && t.sess.claim == none
    && t.handover.flags == [.sessionEnded]) = true := by decide +kernel

theorem test_session_tick : after .sessionTick (ticking 1998) (fun t => t.openSessions == 1
    && (t.sess.entries.get 0).map (·.idleTimer) == some 1999) = true := by decide +kernel

/-- An OUTSTANDING report with its timer running, and a tick on its way. -/
def timing (timer : Option Nat) (retries : Nat) : State :=
  { ticking 0 with events := { EventUnit.powerOn with
    reportState := .outstanding, number := 1, carried := 0x40, timer := timer, retriesLeft := retries
    present := some { header := .idle, payload := control 5 0x10 0x70 } } }

theorem witness_ReportTimer :
    (timing none 1).resetHeld = false ∧ 0 < (timing none 1).handover.eventTicks ∧ (timing none 1).events.timer = none
      ∧ (timing (some 48) 1).events.timer = some 48 ∧ 48 + 1 < (timing (some 48) 1).settings.reportTimeout
      ∧ (timing (some 49) 1).settings.reportTimeout ≤ 49 + 1 ∧ 0 < (timing (some 49) 1).events.retriesLeft
      ∧ (timing (some 49) 0).events.retriesLeft = 0 := by decide +kernel

/-- R169: the timer rises by 1 at a tick. -/
theorem test_event_tick : after .eventUnitTick (timing (some 48) 1) (fun t => t.events.timer == some 49) = true := by decide +kernel

/-- R169: a timeout with a retry left puts a copy with the retransmit flag into the store. -/
theorem test_report_timeout : after .reportTimeout (timing (some 49) 1) (fun t => t.events.retriesLeft == 0
    && t.events.timer == none && t.events.store.map (fun c => (Control.ofPayload c.payload).flags) == some 0x30#8) = true := by
  decide +kernel

theorem test_report_down : after .reportTimeout (timing (some 49) 0) (fun t => t.events.reportState == .down) = true := by
  decide +kernel

/-- The flags on their way, and a report that carries QUEUE_FULL (6). -/
def flagging (fs : List EventFlag) : State :=
  let s := timing none 1
  { s with handover := { s.handover with flags := fs } }

theorem witness_FlagSetting :
    (flagging [.syncLost, .queueFull, .poolEmpty]).handover.flags = [.syncLost] ++ .queueFull :: [.poolEmpty]
      ∧ EventFlag.queueFull ∉ [EventFlag.syncLost] ∧ (flagging []).resetHeld = false := by decide +kernel

/-- R170: an occurrence of a carried flag is marked as renewed. -/
theorem test_flag_renewed : after (.eventFlagSet .queueFull) (flagging [.syncLost, .queueFull])
    (fun t => t.events.flags == 0x2040 && t.events.renewed == 0x40 && t.handover.flags == [.syncLost]) = true := by decide +kernel

/-- IDLE, with target 5 and RESTARTED set and enabled. -/
def reporting : State :=
  { State.reset with settings := { Settings.powerOn with reportTarget := some 5, reportMask := 0x2001 } }

/-- A report in the store, with `n` cells in the control egress queue. -/
def storing (n : Nat) : State :=
  { filled 0 n with events := { EventUnit.powerOn with
    reportState := .outstanding, number := 1, store := some { header := .idle, payload := 0 } } }

/-- The completion of report `n` on its way. -/
def completed (n : Byte) : State :=
  { storing 0 with handover := { Handover.empty with reportsSent := [n] } }

theorem witness_ReportBuildAndIssue :
    reporting.resetHeld = false ∧ reporting.settings.reportTarget = some 5 ∧ reporting.events.reportState = .idle
      ∧ reporting.events.flags &&& reporting.settings.reportMask ≠ 0 ∧ State.reset.settings.reportTarget = none
      ∧ State.reset.events.store = none ∧ (storing 7).events.store = some { header := .idle, payload := 0 }
      ∧ (storing 7).engine.egress.length < 8 ∧ 8 ≤ (storing 8).engine.egress.length
      ∧ (completed 1).handover.reportsSent = 1 :: [] ∧ (completed 1).events.reportState = .outstanding
      ∧ (completed 1).events.number = 1 ∧ (completed 2).handover.reportsSent = 2 :: [] ∧ (2 : Byte) ≠ (completed 2).events.number := by
  decide +kernel

/-- R165, R166: the first report carries number 1, is addressed to the target, and carries the enabled flags. -/
theorem test_report_build : after .reportBuild reporting (fun t => t.events.number == 1 && t.events.carried == 0x2000
    && t.events.store.map (fun c => let k := Control.ofPayload c.payload; (k.dest, k.seq, k.op, k.flags, k.word 3))
      == some (5, 1, 0x70, 0x10, 512)) = true := by decide +kernel

theorem test_report_issue : after .reportIssue (storing 7) (fun t => t.events.store.isNone && t.engine.egress.length == 8) = true := by
  decide +kernel

theorem test_report_waits : after .reportIssue (storing 8) (fun t => t.events.store.isSome && t.engine.egress.length == 8) = true := by
  decide +kernel

theorem test_report_sent : after .reportSendingComplete (completed 1) (fun t => t.events.timer == some 0) = true := by decide +kernel

/-! ### Executions -/

/-- A command with no field but its OP. -/
def plain (op : Byte) : Control := command op 0 0 0 0

/-- `ready` with the claim held by `claim`. -/
def claimed (claim : Option (Fin 4)) (c : Control) : State :=
  let s := ready .reset c
  { s with sess := { s.sess with claim := claim } }

/-- The same, for the other sessions: node 6 in entry 1. -/
def other (s : State) : State := s.setSession 1 (some { session with manager := 6 })

theorem witness_ExecutionAndSender :
    State.reset.engine.intake = [] ∧ 8 ≤ (filled 1 8).engine.egress.length
      ∧ ({ State.reset.engine with restartPending := true } : ControlEngine).restartPending = true
      ∧ Op.ofCode (plain 4).op ≠ some .claim ∧ Op.ofCode (plain 4).op = some .ping
      ∧ 63 < ({ plain 4 with src := 64 } : Control).src.toNat ∧ (plain 4).src.toNat ≤ 63
      ∧ (∀ j : Fin 4, (withIntake .reset (plain 4)).managerOf j ≠ some ((plain 4).src.setWidth 6)) := by decide +kernel

theorem witness_ExecutionAndSender_takes : (withIntake .reset (plain 4)).Takes (plain 4) []
    ∧ (withIntake .reset { plain 4 with src := 64 }).Takes { plain 4 with src := 64 } [] :=
  ⟨takes rfl rfl rfl (by decide +kernel), takes rfl rfl rfl (by decide +kernel)⟩

theorem witness_SequenceCheck :
    let c (seq : Byte) : Control := { plain 4 with seq := seq }
    (∀ q ∈ [7, 9], (ready .reset (c q)).sessionOf ((c q).src.setWidth 6) = some 0
      ∧ (ready .reset (c q)).sess.entries.get 0 = some session ∧ Op.ofCode (c q).op = some .ping ∧ (c q).src.toNat ≤ 63
      ∧ (c q).seq ≠ session.lastSeq + 1 ∧ Control.ofPayload (c q).toPayload = c q)
      ∧ (c 7).seq = session.lastSeq ∧ (c 9).seq ≠ session.lastSeq := by decide +kernel

/-- R130: the last SEQ is answered from the cache, with the retransmit flag. -/
theorem test_retransmission : after .ping (ready .reset { plain 4 with seq := 7 })
    (fun t => (reply t).map (·.flags) == some 0x20#8 && (t.sess.entries.get 0).map (·.idleTimer) == some 0) = true := by decide +kernel

/-- R130: any other SEQ draws SEQUENCE, with the last SEQ. -/
theorem test_sequence : after .ping (ready .reset { plain 4 with seq := 9 }) (fun t => replied t 0x14 0 7
    && (t.sess.entries.get 0).map (·.lastSeq) == some 7) = true := by decide +kernel

/-- R128, step 4. -/
theorem test_no_session : after .ping (withIntake .reset (plain 4)) (fun t => replied t 0x12 0 0
    && t.counters.device.get 15 == 1 && t.engine.intake.isEmpty) = true := by decide +kernel

theorem witness_NotHolderWithoutTheClaim :
    Op.ofCode (plain 0x44).op = some .calCommit ∧ opNeedsClaim (plain 0x44) .calCommit = true
      ∧ opNeedsClaim (command 0x50 0x10 1 0 0) .snapTake = true ∧ (claimed none (plain 0x44)).sess.claim ≠ some 0
      ∧ (other (claimed (some 1) (plain 0x44))).sess.claim = some 1
      ∧ ((other (claimed (some 1) (plain 0x44))).sess.entries.get 1).isSome = true
      ∧ (claimed none (plain 0x44)).sessionOf 5 = some 0 := by decide +kernel

/-- R139: NOT_HOLDER with the holder's node. -/
theorem test_not_holder : after .calCommit (other (claimed (some 1) (plain 0x44))) (fun t => replied t 0x15 0 6
    && !t.cal.commitPending) = true := by decide +kernel

theorem witness_Discover :
    Op.ofCode (plain 1).op = some .discover ∧ (plain 1).src.toNat ≤ 63 ∧ (withIntake .reset (plain 1)).sessionOf 5 = none
      ∧ (ready .reset (plain 1)).sessionOf 5 = some 0 ∧ (ready .reset (plain 1)).sess.entries.get 0 = some session := by
  decide +kernel

/-- R182. -/
theorem test_discover : after .discover (ready .reset (plain 1)) (fun t => (reply t).map (·.data)
    == some 0x3A1C241601000304010002008008_0100#128) = true := by decide +kernel

theorem witness_OpenHasFourCases :
    let c := plain 2
    let cachedOpen : Session := { session with cached := { header := .idle, payload := c.toPayload } }
    Op.ofCode c.op = some .openSession ∧ (withIntake .reset c).sessionOf 5 = none ∧ (withIntake .reset c).sess.entries.get 0 = none
      ∧ (ready .reset c).sessionOf 5 = some 0 ∧ (ready .reset c).sess.entries.get 0 = some session
      ∧ (Control.ofPayload session.cached.payload).op ≠ 0x02#8 ∧ (Control.ofPayload cachedOpen.cached.payload).op = 0x02#8
      ∧ (Control.ofPayload cachedOpen.cached.payload).seq = c.seq
      ∧ (∀ j : Fin 4, ((Table.fill 4 (some { session with manager := 6 }) : Table (Option Session) 4).get j).isSome = true)
      ∧ (∀ j : Fin 4, (claimed (some 0) c).sess.claim = some j → ((claimed (some 0) c).sess.entries.get j).isSome = true) := by
  decide +kernel

/-- R136, case 3: the lowest FREE entry, and the reply's words. -/
theorem test_open : after .openSession (withIntake .reset (plain 2)) (fun t => replied t 0 0 2000
    && (reply t).map (fun k => (k.word 1, k.word 2)) == some (0xFF, 3) && (t.sess.entries.get 0).map (·.lastSeq) == some 8) = true := by
  decide +kernel

/-- R136, case 2: the session is replaced, and its claim is lost. -/
theorem test_open_replaces : after .openSession (ready .reset (plain 2)) (fun t => t.handover.flags == [.sessionEnded]
    && t.sess.claim == none && t.openSessions == 1) = true := by decide +kernel

/-- Commands from an accepted session, with one word of DATA. -/
def word (w : Word) : BitVec 128 := dataWords w 0 0 0

theorem witness_SessionQueries : (ready .reset (plain 4)).AcceptsClaimed (plain 4) [] 0 session
    ∧ Op.ofCode (plain 0x0B).op = none ∧ Op.ofCode (plain 4).op = some .ping ∧ Op.ofCode (command 8 10 0 0 0).op = some .get
    ∧ 9 < (command 8 10 0 0 0).arg.toNat ∧ decodeSetting (command 8 9 0 0 0).arg = some .controlHop
    ∧ Op.ofCode (plain 9).op = some .status ∧ (ready .reset (plain 9)).sess.claim = some 0
    ∧ ((ready .reset (plain 9)).sess.entries.get 0).isSome = true :=
  ⟨accepts_reset (by decide +kernel) rfl rfl, by decide +kernel⟩

theorem test_bad_op : after .badOp (ready .reset (plain 0x0B)) (fun t => replied t 0x10 0 0
    && (t.sess.entries.get 0).map (·.lastSeq) == some 8) = true := by decide +kernel

theorem test_ping : after .ping (ready .reset (plain 4)) (fun t => replied t 0 0 0) = true := by decide +kernel

theorem test_get : after .get (ready .reset (command 8 8 0 0 0)) (fun t => replied t 0 0 2000) = true := by decide +kernel

/-- R145: HUNT, bank A, no commit pending, last reset POWER-ON; 512 buffers free. -/
theorem test_status : after .status (ready .reset (plain 9)) (fun t => replied t 0 0 0
    && (reply t).map (fun k => (k.word 1, k.word 2)) == some (0x02000000, 0x05010000)) = true := by decide +kernel

theorem witness_CloseClaimRelease :
    Op.ofCode (plain 3).op = some .closeSession ∧ Op.ofCode (plain 5).op = some .claim ∧ Op.ofCode (plain 6).op = some .release
      ∧ (claimed none (plain 5)).sess.claim = none ∧ (claimed (some 0) (plain 5)).sess.claim = some 0
      ∧ (other (claimed (some 1) (plain 5))).sess.claim = some 1 ∧ (1 : Fin 4) ≠ 0
      ∧ ((other (claimed (some 1) (plain 5))).sess.entries.get 1).isSome = true := by decide +kernel

theorem test_close : after .closeSession (ready .reset (plain 3)) (fun t => replied t 0 0 0 && t.openSessions == 0
    && t.sess.claim == none && t.handover.flags == []) = true := by decide +kernel

theorem test_claim : after .claim (claimed none (plain 5)) (fun t => replied t 0 0 0 && t.sess.claim == some 0) = true := by decide +kernel

theorem test_release_of_a_free_claim : after .release (claimed none (plain 6)) (fun t => replied t 0x15 0 0xFF) = true := by
  decide +kernel

theorem witness_SettingValues : (setSetting .powerOn .dropLimit 512).isSome = true ∧ (setSetting .powerOn .dropLimit 513) = none
    ∧ (setSetting .powerOn .reportTarget 0xFF).isSome = true ∧ (setSetting .powerOn .reportTarget 64) = none
    ∧ (setSetting .powerOn .controlHop 0) = none ∧ (setSetting .powerOn .reportTimeout 0) = none := by decide +kernel

theorem witness_SetCommand : (ready .reset (command 7 3 0 0 (word 0))).AcceptsClaimed (command 7 3 0 0 (word 0)) [] 0 session
    ∧ Op.ofCode 7 = some .set ∧ decodeSetting 0 = none ∧ decodeSetting 3 = some .dropLimit
    ∧ (command 7 3 0 0 (word 513)).word 0 = 513 ∧ setSetting Settings.powerOn .dropLimit 513 = none
    ∧ setSetting Settings.powerOn .dropLimit 0 = some { Settings.powerOn with dropLimit := 0 }
    ∧ 0 < (dropping 0).pool.drop.length ∧ State.reset.pool.drop.length ≤ 0 :=
  ⟨accepts_reset (by decide +kernel) rfl rfl, by decide +kernel⟩

theorem test_set : after .set (ready .reset (command 7 2 0 0 (word 3))) (fun t => replied t 0 0 3
    && t.settings.unknownQueue == 3) = true := by decide +kernel

/-- R65: a *drop limit* below the depth. -/
theorem test_set_busy : after .set (ready (dropping 0) (command 7 3 0 0 (word 0))) (fun t => replied t 0x19 0 0) = true := by
  decide +kernel

theorem witness_RestartCommand : (ready .reset (command 0x0A 1 0 0 0)).AcceptsClaimed (command 0x0A 1 0 0 0) [] 0 session
    ∧ Op.ofCode 0x0A = some .restart ∧ (3 : Byte) ≠ 1 ∧ (3 : Byte) ≠ 2 :=
  ⟨accepts_reset (by decide +kernel) rfl rfl, by decide +kernel⟩

theorem test_restart : after .restart (ready .reset (command 0x0A 2 0 0 0)) (fun t => replied t 0 2 0
    && t.engine.restartPending && t.engine.egress.map (·.mark) == [some .all]) = true := by decide +kernel

/-! ### The table commands -/

/-- A stream record: label 10, FORWARD, queue 2, meter absent, MARK, add-allowed yes, add-hop 9. -/
def record : BitVec 128 := 0x000A0000_02FF0001_09000000_00000000#128

theorem witness_StreamAdd : (ready .reset (command 0x10 0 0 0 record)).AcceptsClaimed (command 0x10 0 0 0 record) [] 0 session
    ∧ Op.ofCode 0x10 = some .streamAdd ∧ (streamFields (command 0x10 0 0 0 0)).addHop = none
    ∧ (let f := streamFields (command 0x10 0 0 0 record)
       f.label = 10 ∧ f.action = some .forward ∧ f.queue = some 2 ∧ f.meter = some none ∧ f.onExceed = some .mark
         ∧ f.addAllowed = some true ∧ f.addHop = some 9)
    ∧ (oneEntry entry).streams.get 0 = entry ∧ entry.state ≠ .free ∧ entry.label = 10 ∧ (State.reset.streams.get 0).state = .free :=
  ⟨accepts_reset (by decide +kernel) rfl rfl, by decide +kernel⟩

theorem test_stream_add : after .streamAdd (ready .reset (command 0x10 0 0 0 record)) (fun t => replied t 0 0 0
    && decide (t.streams.get 0 = { entry with onExceed := .mark })) = true := by decide +kernel

theorem test_stream_exists : after .streamAdd (ready (oneEntry entry) (command 0x10 0 0 0 record)) (fun t => replied t 0x16 0 0) = true := by
  decide +kernel

theorem witness_StreamSetAndRemove : (ready (oneEntry entry) (command 0x11 2 0 0 record)).AcceptsClaimed (command 0x11 2 0 0 record) [] 0 session
    ∧ Op.ofCode 0x11 = some .streamSet ∧ Op.ofCode 0x12 = some .streamRemove ∧ 255 < (256 : BitVec 16).toNat
    ∧ (command 0x11 2 0 255 record).index.toNat = (255 : Fin 256).val ∧ ((oneEntry entry).streams.get 0).state = .active
    ∧ ((oneEntry entry).streams.get 0).queued = 0 ∧ ((oneEntry entry).streams.get 255).state = .free
    ∧ ((oneEntry { entry with state := .retiring }).streams.get 0).state = .retiring
    ∧ 0 < ((oneEntry { entry with queued := 1 }).streams.get 0).queued
    ∧ (32 : Byte).getLsbD 5 = true ∧ (streamFields (command 0x11 32 0 0 0)).addHop = none :=
  ⟨accepts rfl rfl rfl (by decide +kernel) rfl rfl, by decide +kernel⟩

/-- R22, check 5: a queue change while cells are queued. -/
theorem test_stream_set_busy : after .streamSet (ready (oneEntry { entry with queue := 1, queued := 1 }) (command 0x11 2 0 0 record))
    (fun t => replied t 0x19 0 0 && decide ((t.streams.get 0).queue = 1)) = true := by decide +kernel

theorem test_stream_set : after .streamSet (ready (oneEntry { entry with queue := 1 }) (command 0x11 2 0 0 record))
    (fun t => replied t 0 0 0 && decide (t.streams.get 0 = entry)) = true := by decide +kernel

theorem test_stream_remove_retiring : after .streamRemove (ready (oneEntry { entry with queued := 1 }) (command 0x12 1 0 0 0))
    (fun t => replied t 0 2 0 && decide ((t.streams.get 0).state = .retiring) && (t.streams.get 0).purge) = true := by decide +kernel

theorem test_stream_remove_freed : after .streamRemove (ready (oneEntry entry) (command 0x12 1 0 0 0))
    (fun t => replied t 0 1 0 && decide ((t.streams.get 0).state = .free) && t.handover.flags == [.streamRetired]) = true := by
  decide +kernel

theorem witness_StreamReadAndFind : Op.ofCode 0x13 = some .streamRead ∧ Op.ofCode 0x14 = some .streamFind ∧ 4095 < (4096 : BitVec 16).toNat
    ∧ ((oneEntry entry).streams.get 0).label.toNat = (command 0x14 0 0 10 0).index.toNat
    ∧ ((oneEntry entry).streams.get 0).state ≠ .free ∧ (command 0x14 0 0 4095 0).index.toNat ≤ 4095 := by decide +kernel

theorem test_stream_read : after .streamRead (ready (oneEntry entry) (command 0x13 0 0 0 0)) (fun t => (reply t).map (·.data)
    == some 0x000A0100_02FF0101_09000000_00000000#128) = true := by decide +kernel

theorem test_stream_find : after .streamFind (ready (oneEntry entry) (command 0x14 0 0 10 0)) (fun t => replied t 0 0 0x000A0100) = true := by
  decide +kernel

/-- A meter record: limit 5, increment 9, period 2, source MARK 7, partner 9. -/
def meterDataOf (source partner : Byte) : BitVec 128 :=
  dataWords 0x00050009 0x00020000 (source ++ 0x07#8 ++ partner ++ 0#8) 0

theorem witness_MeterSet :
    let c := command 0x20 0x1F 0 3 (meterDataOf 0x40 9)
    (ready .reset c).AcceptsClaimed c [] 0 session ∧ Op.ofCode 0x20 = some .meterSet ∧ c.index.toNat = (3 : Fin 128).val
    ∧ 127 < (128 : BitVec 16).toNat ∧ (meterFields (command 0x20 1 0 3 0)).limit = none
    ∧ (let f := meterFields c
       f.limit = some 5 ∧ f.increment = some 9 ∧ f.period = some 2 ∧ f.source = some (.mark 7) ∧ f.partner = some (some 9))
    ∧ (meterFields (command 0x20 0x1F 0 3 (meterDataOf 0x80 9))).source = some (.cascade 7) ∧ (3 : Fin 128) ≤ 7
    ∧ (State.reset.bank.meters.get 9).partner = none ∧ (State.reset.bank.meters.get 3).named = 0
    ∧ (meterFields (command 0x20 0x1F 0 3 (meterDataOf 0x40 3))).partner = some (some 3) :=
  ⟨accepts_reset (by decide +kernel) rfl rfl, by decide +kernel⟩

/-- R42, R38: the fields are written, and the named count of the partner rises. -/
theorem test_meter_set : after .meterSet (ready .reset (command 0x20 0x1F 0 3 (meterDataOf 0x40 9)))
    (fun t => replied t 0 0 0x00050009 && (t.meter 9).named == 1 && (t.meter 3).credit == 1) = true := by decide +kernel

/-- R41, check 3. -/
theorem test_meter_set_cascade_order : after .meterSet (ready .reset (command 0x20 0x1F 0 3 (meterDataOf 0x80 9)))
    (fun t => replied t 0x11 2 0) = true := by decide +kernel

theorem witness_MeterReadReloadHoldRun :
    let c := command 0x22 0 2 0 (dataWords 0 127 200 200)
    (ready .reset c).AcceptsClaimed c [] 0 session ∧ Op.ofCode 0x21 = some .meterRead ∧ Op.ofCode 0x22 = some .meterHold
    ∧ Op.ofCode 0x23 = some .meterRun ∧ Op.ofCode 0x24 = some .meterReload
    ∧ (1 ≤ c.count.toNat ∧ c.count.toNat ≤ 4 ∧ ∀ k, k < 2 → (c.word k).toNat ≤ 127)
    ∧ ¬ (1 ≤ (command 0x22 0 0 0 0).count.toNat) :=
  ⟨accepts_reset (by decide +kernel) rfl rfl, by decide +kernel⟩

theorem test_meter_read : after .meterRead (ready (metered 1 (some 9) 1) (command 0x21 0 0 3 0)) (fun t => replied t 0 0 0x00020001
    && (reply t).map (·.word 2) == some 0x00010900) = true := by decide +kernel

/-- R45: a meter listed twice is counted once. -/
theorem test_meter_hold : after .meterHold (ready .reset (command 0x22 0 3 0 (dataWords 7 7 127 0)))
    (fun t => replied t 0 2 0 && !(t.meter 7).running && !(t.meter 127).running && (t.meter 0).running) = true := by decide +kernel

theorem test_meter_run : after .meterRun (ready (State.reset.setRunning false [7]) (command 0x23 0 2 0 (dataWords 7 8 0 0)))
    (fun t => replied t 0 1 0 && (t.meter 7).running) = true := by decide +kernel

theorem test_meter_reload : after .meterReload (ready (metered 0 none 1) (command 0x24 0 0 3 0)) (fun t => replied t 0 0 0
    && (t.meter 3).credit == 2) = true := by decide +kernel

theorem witness_QueueCommands :
    let c := command 0x30 7 0 2 (dataWords 0x00050003 0x01000000 0 0)
    (ready .reset c).AcceptsClaimed c [] 0 session ∧ Op.ofCode 0x30 = some .queueSet ∧ Op.ofCode 0x31 = some .queueRead
    ∧ c.index.toNat = (2 : Fin 8).val ∧ 8 < (9 : BitVec 16).toNat ∧ (queueFields c).limit = 5 ∧ (queueFields c).deThreshold = 3
    ∧ (queueFields c).fill = some true ∧ 512 < (queueFields (command 0x30 1 0 2 (dataWords 0x02010000 0 0 0))).limit
    ∧ (queueFields (command 0x30 1 0 2 0)).limit < ((queueOf 64 64 1).pool.queues.get 2).cells.length :=
  ⟨accepts_reset (by decide +kernel) rfl rfl, by decide +kernel⟩

/-- R66: a lower limit takes an unnamed DE threshold down with it. -/
theorem test_queue_set : after .queueSet (ready .reset (command 0x30 1 0 2 (dataWords 0x00050000 0 0 0)))
    (fun t => replied t 0 0 0x00050005 && (t.queue 2).deThreshold == 5) = true := by decide +kernel

/-- R128, section 11.5: a QUEUE-SET answered BUSY has used its SEQ, and its reply is the cached one. -/
theorem test_queue_set_busy_is_cached : after .queueSet (ready (queueOf 64 64 1) (command 0x30 1 0 2 0)) (fun t => replied t 0x19 0 0
    && (t.sess.entries.get 0).map (fun x => (x.lastSeq, (Control.ofPayload x.cached.payload).status)) == some (8, 0x19)) = true := by
  decide +kernel

/-- R68: INDEX 8 is the drop queue. -/
theorem test_queue_read_drop : after .queueRead (ready .reset (command 0x31 0 0 8 0)) (fun t => replied t 0 0 0x00400000
    && (reply t).map (·.word 2) == some 512) = true := by decide +kernel

theorem witness_CalendarWrites :
    let c := command 0x40 0 2 254 (word 0x43850000)
    (ready .reset c).AcceptsClaimed c [] 0 session ∧ Op.ofCode 0x40 = some .calWrite ∧ Op.ofCode 0x41 = some .calLength
    ∧ Op.ofCode 0x42 = some .calCopy
    ∧ (c.index.toNat ≤ 255 ∧ (1 ≤ c.count.toNat ∧ c.count.toNat ≤ 16) ∧ c.index.toNat + c.count.toNat ≤ 256)
    ∧ (∀ k, k < 2 → (c.byte k).extractLsb' 6 2 ≠ 0) ∧ ¬ ((command 0x40 0 1 0 0).byte 0).extractLsb' 6 2 ≠ 0
    ∧ State.reset.cal.commitPending = false ∧ ({ State.reset.cal with commitPending := true } : Calendar).commitPending = true
    ∧ (command 0x41 0 0 256 0).index.toNat ≤ 256 ∧ 256 < (command 0x41 0 0 257 0).index.toNat :=
  ⟨accepts_reset (by decide +kernel) rfl rfl, by decide +kernel⟩

/-- R86: bytes 43h and 85h are FIXED Q3 and PREFERRED Q5. -/
theorem test_cal_write : after .calWrite (ready .reset (command 0x40 0 2 254 (word 0x43850000))) (fun t => replied t 0 0 0
    && decide (t.cal.bankB.entry 254 = ⟨.fixed, 3⟩) && decide (t.cal.bankB.entry 255 = ⟨.preferred, 5⟩)
    && decide (t.cal.bankA = State.reset.cal.bankA)) = true := by decide +kernel

theorem test_cal_length : after .calLength (ready .reset (command 0x41 0 0 256 0)) (fun t => replied t 0 0 0 && t.cal.bankB.length == 256
    && t.cal.bankA.length == 1) = true := by decide +kernel

theorem test_cal_copy : after .calCopy (ready (scheduled ⟨.fixed, 2⟩ [] .reset) (plain 0x42)) (fun t => replied t 0 0 0
    && decide (t.cal.bankB = t.cal.bankA)) = true := by decide +kernel

theorem witness_CalendarReadCommitCancel :
    let c := command 0x43 3 16 240 0
    (ready .reset c).AcceptsClaimed c [] 0 session ∧ Op.ofCode 0x43 = some .calRead ∧ Op.ofCode 0x44 = some .calCommit
    ∧ Op.ofCode 0x45 = some .calCancel ∧ 3 < (4 : Byte).toNat
    ∧ (c.index.toNat ≤ 255 ∧ (1 ≤ c.count.toNat ∧ c.count.toNat ≤ 16) ∧ c.index.toNat + c.count.toNat ≤ 256)
    ∧ (c.arg = 3 ∧ BankName.b ≠ State.reset.cal.active)
    ∧ ((0 : Fin 256).val < State.reset.cal.bankB.length ∧ (State.reset.cal.bankB.entries.get 0).kind ≠ .fixed)
    ∧ ¬ (∃ k : Fin 256, k.val < 0 ∧ (State.reset.cal.bankB.entries.get k).kind ≠ .fixed) :=
  ⟨accepts_reset (by decide +kernel) rfl rfl, by decide +kernel⟩

/-- Section 10.4: the reset entry is C0h; SHADOW is bank B, which is not active. -/
theorem test_cal_read : after .calRead (ready .reset (command 0x43 3 1 255 0)) (fun t => replied t 0 1 0xC0000000
    && (reply t).map (fun k => (k.index, k.count)) == some (1, 0)) = true := by decide +kernel

theorem test_cal_commit : after .calCommit (ready .reset (plain 0x44)) (fun t => replied t 0x01 0 0 && t.cal.commitPending) = true := by
  decide +kernel

theorem test_cal_cancel : after .calCancel (ready .reset (plain 0x45)) (fun t => replied t 0 2 0) = true := by decide +kernel

/-- A snapshot of one record, owned by session `i`. -/
def snapped (i : Fin 4) : State :=
  { State.reset with counters := { State.reset.counters with snapshot :=
    { records := [{ object := 20, entryState := some .active, word0 := 501, word1 := 0, word2 := 0, word3 := 2 }]
      source := some .streams, owner := some i } } }

theorem witness_SnapTake :
    let c := command 0x50 0x10 32 224 0
    (ready .reset c).AcceptsClaimed c [] 0 session ∧ Op.ofCode 0x50 = some .snapTake ∧ c.arg.getLsbD 4 = true
    ∧ (c.arg &&& 0xEC#8 = 0 ∧ c.arg &&& 3 ≠ 3 ∧ c.arg &&& 3 = 0) ∧ ((0x11 : Byte) &&& 3 = 1 ∧ (0x11 : Byte) &&& 0xEC = 0)
    ∧ ((0x12 : Byte) &&& 3 = 2 ∧ (0x12 : Byte) &&& 0xEC = 0) ∧ ¬ ((0x04 : Byte) &&& 0xEC#8 = 0)
    ∧ (c.index.toNat ≤ 255 ∧ (1 ≤ c.count.toNat ∧ c.count.toNat ≤ 32) ∧ c.index.toNat + c.count.toNat ≤ 256)
    ∧ (snapped 1).counters.snapshot.owner = some 1 ∧ (snapped 0).counters.snapshot.owner = some 0
    ∧ State.reset.counters.snapshot.owner = none :=
  ⟨accepts_reset (by decide +kernel) rfl rfl, by decide +kernel⟩

/-- R155: a clearing DEVICE take copies the raise for itself, and leaves COMMANDS_EXECUTED at 0. -/
theorem test_snap_take_device : after .snapTake (ready .reset (command 0x50 0x12 0 0 0)) (fun t => replied t 0 0x12 0
    && t.counters.snapshot.records.map (·.word3) == [0, 0, 0, 1] && t.counters.device.get 15 == 0
    && t.counters.snapshot.owner == some 0) = true := by decide +kernel

/-- R154, check 3: BUSY with the owner's node. -/
theorem test_snap_take_busy : after .snapTake (other (ready (snapped 1) (command 0x50 0 1 0 0))) (fun t => replied t 0x19 0 6) = true := by
  decide +kernel

theorem witness_SnapReadAndRelease : Op.ofCode 0x51 = some .snapRead ∧ Op.ofCode 0x52 = some .snapRelease
    ∧ (snapped 0).counters.snapshot.owner = some 0 ∧ (snapped 0).counters.snapshot.records ≠ []
    ∧ (snapped 0).counters.snapshot.records.length ≤ (command 0x51 0 0 1 0).index.toNat
    ∧ ((snapped 0).counters.snapshot.records[(0 : Nat)]?).isSome = true ∧ (snapped 0).counters.snapshot.source = some .streams
    ∧ State.reset.counters.snapshot.owner ≠ some 0 ∧ (snapped 1).counters.snapshot.owner = some 1 := by decide +kernel

theorem test_snap_read : after .snapRead (ready (snapped 0) (plain 0x51)) (fun t => replied t 0 0x10 501
    && (reply t).map (fun k => (k.index, k.count)) == some (20, 1)) = true := by decide +kernel

theorem test_snap_release : after .snapRelease (ready (snapped 0) (plain 0x52)) (fun t => replied t 0 1 0
    && decide (t.counters.snapshot = .empty)) = true := by decide +kernel

theorem witness_EventReadAndClear : Op.ofCode 0x60 = some .eventRead ∧ Op.ofCode 0x61 = some .eventClear
    ∧ 2 ^ 14 ≤ ((command 0x61 0 0 0 (word 0x4000)).word 0).toNat ∧ ((command 0x61 0 0 0 (word 0x3FFF)).word 0).toNat < 2 ^ 14 := by
  decide +kernel

/-- After reset RESTARTED alone is set, and three retries are left. -/
theorem test_event_read : after .eventRead (ready .reset (plain 0x60)) (fun t => replied t 0 0 0x00002000
    && (reply t).map (fun k => (k.word 2, k.word 3)) == some (0x00000300, 0)) = true := by decide +kernel

theorem test_event_clear : after .eventClear (ready .reset (command 0x61 0 0 0 (word 0x2000))) (fun t => replied t 0 0 0x2000
    && t.events.flags == 0) = true := by decide +kernel

/-- Report 7 carried QUEUE_FULL and SYNC_LOST, of which QUEUE_FULL is renewed; the target is node 5. -/
def reported (state : ReportState) : State :=
  { State.reset with
    settings := { Settings.powerOn with reportTarget := some 5 }
    events := { EventUnit.powerOn with
      flags := 0x41, reportState := state, number := 7, carried := 0x41, renewed := 0x40, retriesLeft := 1 } }

theorem witness_ReportAckAndRearm : Op.ofCode 0x62 = some .reportAck ∧ Op.ofCode 0x63 = some .reportRearm
    ∧ (reported .down).settings.reportTarget = some session.manager ∧ State.reset.settings.reportTarget ≠ some session.manager
    ∧ 255 < (command 0x62 0 0 256 0).index.toNat ∧ (command 0x62 0 0 8 0).index.toNat ≠ (reported .down).events.number.toNat
    ∧ (command 0x62 0 0 7 0).index.toNat = (reported .idle).events.number.toNat ∧ (reported .idle).events.reportState = .idle
    ∧ (reported .outstanding).events.reportState ≠ .idle ∧ (reported .down).events.reportState = .down := by decide +kernel

/-- R171: the carried flag that is not renewed is cleared. -/
theorem test_report_ack : after .reportAck (ready (reported .outstanding) (command 0x62 0 0 7 0)) (fun t => replied t 0 1 0x01
    && t.events.flags == 0x40 && t.events.reportState == .idle && t.events.carried == 0) = true := by decide +kernel

theorem test_report_stale : after .reportAck (ready (reported .outstanding) (command 0x62 0 0 6 0)) (fun t => replied t 0x1A 0 0x0107) = true := by
  decide +kernel

theorem test_report_rearm : after .reportRearm (ready (reported .down) (plain 0x63)) (fun t => replied t 0 1 0 && t.events.flags == 0x41
    && t.events.reportState == .idle && t.events.retriesLeft == 3) = true := by decide +kernel

theorem test_not_target : after .reportRearm (ready .reset (plain 0x63)) (fun t => replied t 0x1B 0 0) = true := by decide +kernel

/-! ### Records and laws -/

/-- A good header and a good payload, for the clauses that read back what stands on the ring. -/
theorem witness_LayoutsReadBack :
    goodHeader 0x0000003C = true ∧ goodPayload 0x00050804000000000000000000000000000000000000000000005F3F = true ∧ 31 < 32 := by decide +kernel

theorem witness_RecordsReadBack : (command 0x11 0 0 0 (streamRecord entry)).data = streamRecord entry ∧ entry.addHop ≠ 0
    ∧ (command 0x20 0 0 0 (meterRecord .powerOn)).data = meterRecord .powerOn ∧ (512 ≤ 512)
    ∧ entry.queued ≤ 512 ∧ Meter.powerOn.credit ≤ 65535 ∧ Meter.powerOn.counter ≤ 65535 ∧ Meter.powerOn.named ≤ 127
    ∧ (command 0x30 0 0 0 (queueRecord 512 512 true 0 0)).data = queueRecord 512 512 true 0 0 := by decide +kernel

theorem witness_RecordsReadBack_meter : Meter.powerOn.InRange := by
  refine ⟨⟨?_, ?_⟩, ⟨?_, ?_⟩, ?_, ?_⟩ <;> decide

/-- The state after reset, with a slot event waiting: the laws' hypotheses hold at it, and its step answers next. -/
def running : State := { State.reset with pending := [.slotEvent] }

theorem running_steps : ∃ t, step running = .next t := ⟨_, rfl⟩

theorem running_stream (i : Fin 256) : running.streams.get i = .cleared := by simp [running, State.reset]

theorem running_meter (m : Fin 128) : running.meter m = .powerOn := by simp [running, State.meter, State.reset, MeterBank.powerOn]

theorem running_queue (q : Fin 8) : running.queue q = .powerOn := by simp [running, State.queue, State.reset, Pool.powerOn]

theorem running_session (i : Fin 4) : running.sess.entries.get i = none := by simp [running, State.reset, SessionTable.powerOn]

theorem witness_PoolLawsKept : running.LawL1 ∧ running.LawL2 := by
  refine ⟨(by decide +kernel : running.pool.free + running.depths + running.pool.drop.length + running.poolInTx = 512),
    fun q => ?_, by decide, by decide⟩
  rw [running_queue]
  exact ⟨by decide, by decide, by decide⟩

theorem witness_StreamLawsKept :
    running.LawL3 ∧ running.LawL4 ∧ running.LawL11 ∧ running.QueuedCellsForwardable ∧ running.StreamsInRange := by
  refine ⟨?_, ?_, ?_, ?_, ?_⟩
  · intro i j h; rw [running_stream] at h; exact absurd rfl h
  · intro i
    have : running.owned i = 0 := by
      have : running.pool.queues.cells = List.replicate 8 .powerOn := rfl
      rw [State.owned, this]
      rfl
    rw [running_stream, this]
    exact ⟨rfl, (fun h => by cases h), fun _ => rfl⟩
  · intro q c i h; rw [running_queue] at h; cases h
  · intro q c h; rw [running_queue] at h; cases h
  · intro i; rw [running_stream]; decide

theorem witness_MeterLawsKept : running.LawL5 ∧ running.LawL6 ∧ ∀ m, (running.meter m).InRange := by
  refine ⟨?_, ⟨?_, ?_, ?_⟩, ?_⟩
  · intro m; rw [running_meter]; decide
  · intro m n h; rw [running_meter] at h; cases h
  · intro m p h; rw [running_meter] at h; cases h
  · intro m
    have : running.namers m = 0 := by
      rw [State.namers, List.countP_eq_zero]
      intro x hx
      rw [List.eq_of_mem_replicate hx]
      exact Bool.false_ne_true
    rw [running_meter, this]
    rfl
  · intro m; rw [running_meter]; exact ⟨by decide, by decide, by decide⟩

theorem witness_SessionCalendarReportLawsKept :
    running.LawL7 ∧ running.LawL8 ∧ running.LawL9 ∧ running.LawL12 ∧ running.RenewedCarried := by
  refine ⟨⟨?_, ?_, ?_, ?_⟩, ⟨?_, ?_⟩, ⟨by exact ⟨by decide, by decide⟩, by exact ⟨by decide, by decide⟩, by decide +kernel, by decide, by decide⟩,
    ⟨by decide, ?_, by decide⟩, by exact (by decide : (0#14 &&& ~~~0#14) = 0#14)⟩
  · intro c h; cases h
  · intro h; cases h
  · intro h; exact absurd rfl h
  · intro _; exact ⟨rfl, rfl, rfl⟩
  · intro i j n h; simp [State.managerOf, running_session] at h
  · intro i h; cases h
  · intro i h; cases h

theorem witness_BlockBoundsKept : running.EngineOk ∧ running.PortOk ∧ running.ReceiverOk ∧ running.Ranges := by
  refine ⟨⟨by decide, by decide, by decide +kernel⟩, ⟨by decide, trivial, by decide, fun _ => rfl⟩,
    ⟨by decide, by decide, by decide, by decide, by decide⟩, ⟨?_, ?_, ?_, ?_, by decide, ?_⟩⟩
  · refine ⟨?_, ⟨?_, ?_⟩, ?_, ⟨?_, ?_⟩, ?_⟩ <;> decide
  · intro m; rw [running_meter]; exact ⟨by decide, by decide, by decide⟩
  · intro i; rw [running_stream]; decide
  · intro i x h; simp [running_session] at h
  · intro t h; cases h

end Sys2Proof.Tests
end

section
/-! PROOF. One event apart from what earlier events handed over (R162), and an accepted command as one event. -/

namespace Sys2Proof.Machine

/-! ### One event (R162) -/

/-- `s` as an event finds it that hands its own flags over apart from those already on their way. -/
def State.unflagged (s : State) : State := { s with handover := { s.handover with flags := [] } }

/-- An event is run on the state without the flags of earlier events, which then stand before its own. -/
theorem oneEvent_eq_unflagged (f : State → State) (s : State) : oneEvent f s =
    { f s.unflagged with handover := { (f s.unflagged).handover with
      flags := s.handover.flags ++ (f s.unflagged).handover.flags } } := rfl

theorem oneEvent_congr {f g : State → State} {s : State} (h : f s.unflagged = g s.unflagged) : oneEvent f s = oneEvent g s := by
  rw [oneEvent_eq_unflagged, h, oneEvent_eq_unflagged]

/-- An event that comes to `t`, and itself hands the flags `fs` over. -/
theorem oneEvent_handsOver {f : State → State} {s t : State} {fs : List EventFlag} (h : f s.unflagged = t.unflagged.handsOver fs)
    (ht : t.handover.flags = s.handover.flags) : oneEvent f s = t.handsOver fs := by
  rw [oneEvent_eq_unflagged, h, ← ht]
  rfl

@[simp] theorem State.handsOver_nil (s : State) : s.handsOver [] = s := by simp [State.handsOver]

/-- An event that comes to `t`, and hands no flag over. -/
theorem oneEvent_silent {f : State → State} {s t : State} (h : f s.unflagged = t.unflagged)
    (ht : t.handover.flags = s.handover.flags) : oneEvent f s = t := by
  rw [oneEvent_handsOver (h.trans t.unflagged.handsOver_nil.symm) ht, State.handsOver_nil]

/-! What an event has handed over passes counters by. -/

@[simp] theorem State.unflagged_countDevice (s : State) (c : DeviceCounter) :
    s.unflagged.countDevice c = (s.countDevice c).unflagged := rfl

@[simp] theorem State.unflagged_countStream (s : State) (i : Fin 256) (c : StreamCounter) :
    s.unflagged.countStream i c = (s.countStream i c).unflagged := rfl

@[simp] theorem State.handsOver_countDevice (s : State) (fs : List EventFlag) (c : DeviceCounter) :
    (s.handsOver fs).countDevice c = (s.countDevice c).handsOver fs := rfl

@[simp] theorem State.handsOver_countStream (s : State) (fs : List EventFlag) (i : Fin 256) (c : StreamCounter) :
    (s.handsOver fs).countStream i c = (s.countStream i c).handsOver fs := rfl

/-- A flag that is not on its way yet is handed over. -/
theorem State.hand_eq_handsOver {s : State} {f : EventFlag} (h : f ∉ s.handover.flags) : s.hand f = s.handsOver [f] := if_neg h

/-- The first flag that an event hands over. -/
@[simp] theorem State.hand_unflagged (s : State) (f : EventFlag) : s.unflagged.hand f = s.unflagged.handsOver [f] :=
  State.hand_eq_handsOver List.not_mem_nil

/-- A further flag that an event hands over. -/
theorem State.hand_handsOver {s : State} {fs : List EventFlag} {f : EventFlag} (h : f ∉ fs) :
    (s.unflagged.handsOver fs).hand f = s.unflagged.handsOver (fs ++ [f]) := State.hand_eq_handsOver h

/-- A flag is handed over once in an event, whatever else has been done in it. -/
theorem State.hand_handover_congr {s t : State} {f : EventFlag}
    (h : t.handover = s.handover ∨ t.handover = (s.hand f).handover) : (t.hand f).handover = (s.hand f).handover := by
  rcases h with h | h
  · simp [State.hand_eq, h]
  · have hmem : f ∈ t.handover.flags := by
      rw [h, State.mem_hand]
      exact .inl rfl
    rw [State.hand, if_pos hmem, h]

theorem State.handSource_unflagged (s : State) (o : Origin) (p : Meter → Bool) :
    s.unflagged.handSource o p = (s.handSource o p).unflagged := by
  unfold State.handSource
  split
  · next h => rw [show s.bank.meters.indices p = [] from h]
  · next h =>
    rw [show s.bank.meters.indices p = _ from h]
    rfl

/-! ### An accepted command as one event (R126 to R132) -/

section
variable {s t : State} {c : Control} {rest : List ControlCell} {i : Fin 4} {x : Session} {op : Option Op}
  {claim : Control → Bool} {own : Control → Fin 4 → State → Done} {r : Reply}

/-- An accepted command whose own part comes to `t` and hands the flags `fs` over. -/
theorem live_accepted_handsOver {fs : List EventFlag} (h : s.Accepts c rest i x) (hop : Op.ofCode c.op = op)
    (hcl : claim c = true → s.sess.claim = some i) (ht : t.handover.flags = s.handover.flags)
    (hown : own c i (s.unflagged.begun c rest i x) = { state := (t.unflagged.begun c rest i x).handsOver fs, reply := r }) :
    live (execution op (inSession claim own)) s = (t.handsOver fs).executed c rest i x (s.replyCell c r) := by
  rw [live_execution_accepted h hop hcl, oneEvent_eq_unflagged, State.conclude, hown]
  simp [State.cacheReply, State.begun, State.setSession, State.joinEgress, State.executed, State.answered, State.replyCell,
    State.handsOver, State.unflagged, ht]

/-- An accepted command whose own part comes to `t` and hands no flag over. -/
theorem live_accepted (h : s.Accepts c rest i x) (hop : Op.ofCode c.op = op) (hcl : claim c = true → s.sess.claim = some i)
    (ht : t.handover.flags = s.handover.flags)
    (hown : own c i (s.unflagged.begun c rest i x) = { state := t.unflagged.begun c rest i x, reply := r }) :
    live (execution op (inSession claim own)) s = t.executed c rest i x (s.replyCell c r) :=
  live_execution_executed h hop hcl ht fun _ hu => hu ▸ hown

/-- An accepted command whose own part changes nothing. -/
theorem live_accepted_same (h : s.Accepts c rest i x) (hop : Op.ofCode c.op = op) (hcl : claim c = true → s.sess.claim = some i)
    (hown : own c i (s.unflagged.begun c rest i x) = Done.same (s.unflagged.begun c rest i x) r) :
    live (execution op (inSession claim own)) s = s.executed c rest i x (s.replyCell c r) :=
  live_execution_same h hop hcl fun _ hu => hu ▸ hown

end

end Sys2Proof.Machine
end

section
/-! PROOF. Shared facts: reading a state after an update, and counting a stream's cells queue by queue. -/

namespace Sys2Proof.Machine

/-! ### Queues and streams by index -/

theorem Table.cells_eq_ofFn {α : Type} {n : Nat} (t : Table α n) : t.cells = List.ofFn t.get := by
  refine List.ext_getElem (by simp [t.size]) fun k h₁ h₂ => ?_
  simp [Table.get]

@[simp] theorem State.queue_setQueue_self (s : State) (q : Fin 8) (x : EgressQueue) : (s.setQueue q x).queue q = x :=
  Table.get_set_self _ _ _

theorem State.queue_setQueue_ne (s : State) {p q : Fin 8} (x : EgressQueue) (h : q ≠ p) :
    (s.setQueue p x).queue q = s.queue q := Table.get_set_ne _ _ h.symm

/-- A queue is read from the pool alone. -/
theorem State.queue_congr {s t : State} (h : t.pool.queues = s.pool.queues) (q : Fin 8) : t.queue q = s.queue q := by
  rw [State.queue, h, State.queue]

/-! ### The cells a stream owns (R3, R16) -/

theorem ownedIn_cons (i : Fin 256) (c : QueuedCell) (cs : List QueuedCell) :
    ownedIn i (c :: cs) = ownedIn i cs + if c.owner = some i then 1 else 0 := by
  simp [ownedIn, List.countP_cons]

theorem ownedIn_append (i : Fin 256) (cs ds : List QueuedCell) : ownedIn i (cs ++ ds) = ownedIn i cs + ownedIn i ds := by
  simp [ownedIn]

@[simp] theorem ownedIn_nil (i : Fin 256) : ownedIn i [] = 0 := rfl

theorem ownedIn_pos {i : Fin 256} {c : QueuedCell} {cs : List QueuedCell} (hc : c ∈ cs) (ho : c.owner = some i) :
    0 < ownedIn i cs := List.countP_pos_iff.2 ⟨c, hc, by simpa using ho⟩

/-- R16: the cells of a stream are counted queue by queue. -/
theorem State.owned_eq_sum (s : State) (i : Fin 256) : s.owned i = ∑ q : Fin 8, ownedIn i (s.queue q).cells := by
  rw [State.owned, Table.cells_eq_ofFn, List.map_ofFn, List.sum_ofFn]
  rfl

theorem State.owned_congr {s t : State} (h : ∀ q, (t.queue q).cells = (s.queue q).cells) (i : Fin 256) :
    t.owned i = s.owned i := by simp only [State.owned_eq_sum, h]

/-- A stream with a cell in some queue owns a cell. -/
theorem State.owned_pos {s : State} {q : Fin 8} {c : QueuedCell} {i : Fin 256} (hc : c ∈ (s.queue q).cells)
    (ho : c.owner = some i) : 0 < s.owned i := by
  rw [State.owned_eq_sum]
  calc 0 < ownedIn i (s.queue q).cells := ownedIn_pos hc ho
    _ ≤ _ := Finset.single_le_sum (f := fun p => ownedIn i (s.queue p).cells) (by simp) (Finset.mem_univ q)

/-- Where the cells of one queue alone differ, a stream's count differs by what that queue holds of it. -/
theorem State.owned_of_one_queue {s t : State} {q : Fin 8} (h : ∀ p, p ≠ q → (t.queue p).cells = (s.queue p).cells)
    (i : Fin 256) : t.owned i + ownedIn i (s.queue q).cells = s.owned i + ownedIn i (t.queue q).cells := by
  have hrest : ∑ p ∈ Finset.univ.erase q, ownedIn i (t.queue p).cells =
      ∑ p ∈ Finset.univ.erase q, ownedIn i (s.queue p).cells :=
    Finset.sum_congr rfl fun p hp => by rw [h p (Finset.ne_of_mem_erase hp)]
  rw [State.owned_eq_sum, State.owned_eq_sum, ← Finset.add_sum_erase _ _ (Finset.mem_univ q),
    ← Finset.add_sum_erase (a := q) _ _ (Finset.mem_univ q), hrest]
  omega

/-! ### A cell joins a queue, and the head of a queue leaves it (R16, R18, R59, R80) -/

theorem State.accept_cells (s : State) (q p : Fin 8) (c : QueuedCell) :
    ((s.accept q c).queue p).cells = (s.queue p).cells ++ if p = q then [c] else [] := by
  have hpool : (s.accept q c).queue p =
      (s.takeBuffer.setQueue q { s.queue q with cells := (s.queue q).cells ++ [c] }).queue p :=
    State.queue_congr (by simp [State.accept, State.queue]) p
  by_cases hp : p = q
  · subst hp
    rw [hpool, State.queue_setQueue_self, if_pos rfl]
  · rw [hpool, State.queue_setQueue_ne _ _ hp, if_neg hp, List.append_nil]
    rfl

theorem State.accept_owned (s : State) (q : Fin 8) (c : QueuedCell) (i : Fin 256) :
    (s.accept q c).owned i = s.owned i + if c.owner = some i then 1 else 0 := by
  have := State.owned_of_one_queue (s := s) (t := s.accept q c) (q := q) (fun p hp => by simp [State.accept_cells, hp]) i
  rw [State.accept_cells, if_pos rfl, ownedIn_append, ownedIn_cons, ownedIn_nil] at this
  omega

/-- R16, R18: a stream entry after one of its cells has left its queue. -/
def StreamEntry.departed (e : StreamEntry) : StreamEntry :=
  if e.state = .retiring ∧ e.queued - 1 = 0 then .cleared else { e with queued := e.queued - 1 }

theorem State.departs_streams_eq (s : State) (i : Fin 256) :
    (s.departs i).streams = s.streams.set i (s.streams.get i).departed := State.departs_streams s i

/-- R16, R80: Q`q` has given up its head `c`, and `rest` is left; the cell's owner has counted the departure. -/
def State.dequeued (s : State) (q : Fin 8) (c : QueuedCell) (rest : List QueuedCell) : State :=
  (s.setQueue q { s.queue q with cells := rest }).ownerDeparts c.owner

theorem State.dequeued_pool (s : State) (q : Fin 8) (c : QueuedCell) (rest : List QueuedCell) :
    (s.dequeued q c rest).pool = (s.setQueue q { s.queue q with cells := rest }).pool := by
  simp [State.dequeued]

theorem State.dequeued_queue_self (s : State) (q : Fin 8) (c : QueuedCell) (rest : List QueuedCell) :
    (s.dequeued q c rest).queue q = { s.queue q with cells := rest } := by
  rw [State.queue, State.dequeued_pool]
  exact State.queue_setQueue_self _ _ _

theorem State.dequeued_queue_ne (s : State) {q p : Fin 8} (c : QueuedCell) (rest : List QueuedCell) (h : p ≠ q) :
    (s.dequeued q c rest).queue p = s.queue p := by
  rw [State.queue, State.dequeued_pool]
  exact State.queue_setQueue_ne _ _ h

theorem State.dequeued_streams (s : State) (q : Fin 8) (c : QueuedCell) (rest : List QueuedCell) :
    (s.dequeued q c rest).streams = match c.owner with
      | some i => s.streams.set i (s.streams.get i).departed
      | none => s.streams := by
  cases ho : c.owner <;> simp [State.dequeued, ho, State.ownerDeparts, State.departs_streams_eq]

theorem State.mem_of_mem_dequeued {s : State} {q p : Fin 8} {c d : QueuedCell} {rest : List QueuedCell}
    (hc : (s.queue q).cells = c :: rest) (hd : d ∈ ((s.dequeued q c rest).queue p).cells) : d ∈ (s.queue p).cells := by
  by_cases hp : p = q
  · subst hp
    rw [State.dequeued_queue_self] at hd
    rw [hc]
    exact List.mem_cons_of_mem _ hd
  · rwa [State.dequeued_queue_ne _ _ _ hp] at hd

theorem State.dequeued_owned {s : State} {q : Fin 8} {c : QueuedCell} {rest : List QueuedCell}
    (hc : (s.queue q).cells = c :: rest) (i : Fin 256) :
    s.owned i = (s.dequeued q c rest).owned i + if c.owner = some i then 1 else 0 := by
  have := State.owned_of_one_queue (s := s) (t := s.dequeued q c rest) (q := q)
    (fun p hp => by rw [State.dequeued_queue_ne _ _ _ hp]) i
  simp only [State.dequeued_queue_self, hc, ownedIn_cons] at this
  omega

end Sys2Proof.Machine
end

section
/-! PROOF. The laws of the Stream Table as one invariant, and the operations of the Stream Table and the queues that keep it. -/

namespace Sys2Proof.Machine

/-- R56, R106: a cell that may stand in Q0..Q7. -/
def QueuedCell.Forwardable (c : QueuedCell) : Prop := (c.header.kind = .data ∨ c.header.kind = .mark) ∧ c.header.hop ≠ 0

/-- Laws L3, L4 and L11 with the ranges of R1 and R56: what `Obligations.StreamLawsKept` is about. -/
structure State.StreamLaws (s : State) : Prop where
  labels : s.LawL3
  counts : s.LawL4
  places : s.LawL11
  cells  : s.QueuedCellsForwardable
  hops   : s.StreamsInRange

namespace State.StreamLaws

variable {s t : State}

/-- The laws read the Stream Table and the cells of the queues alone. -/
theorem of_eq (h : s.StreamLaws) (hs : t.streams = s.streams) (hq : ∀ q, (t.queue q).cells = (s.queue q).cells) :
    t.StreamLaws where
  labels := by simpa only [State.LawL3, hs] using h.labels
  counts := by simpa only [State.LawL4, hs, State.owned_congr hq] using h.counts
  places := by simpa only [State.LawL11, hs, hq] using h.places
  cells := by simpa only [State.QueuedCellsForwardable, hq] using h.cells
  hops := by simpa only [State.StreamsInRange, hs] using h.hops

theorem of_frame (h : s.StreamLaws) (hs : t.streams = s.streams) (hp : t.pool.queues = s.pool.queues) : t.StreamLaws :=
  h.of_eq hs fun q => by rw [State.queue_congr hp]

/-- With every queue empty the laws ask for the Stream Table alone. -/
theorem of_empty (hl : t.LawL3) (hq : ∀ q, (t.queue q).cells = [])
    (he : ∀ i, (t.streams.get i).queued = 0 ∧ (t.streams.get i).state ≠ .retiring
      ∧ ((t.streams.get i).state = .free → t.streams.get i = .cleared) ∧ (t.streams.get i).addHop ≠ 0) :
    t.StreamLaws where
  labels := hl
  counts i := by
    obtain ⟨hz, hr, hf, -⟩ := he i
    exact ⟨by simp [hz, State.owned_eq_sum, hq], fun h => absurd h hr, hf⟩
  places q c i hc := by simp [hq] at hc
  cells q c hc := by simp [hq] at hc
  hops i := (he i).2.2.2

/-- The laws where every entry is FREE and every queue is empty, as after a power-on. -/
theorem of_cleared (hs : ∀ i, t.streams.get i = .cleared) (hq : ∀ q, (t.queue q).cells = []) : t.StreamLaws :=
  of_empty (fun i _ hi => absurd (by rw [hs i]; rfl) hi) hq fun i => by simp [hs i, StreamEntry.cleared]

/-- R1, R16: an entry that owns a queued cell is not FREE. -/
theorem not_free_of_owned (h : s.StreamLaws) {i : Fin 256} (hi : 0 < s.owned i) : (s.streams.get i).state ≠ .free := by
  obtain ⟨hcount, -, hfree⟩ := h.counts i
  intro hf
  rw [hfree hf] at hcount
  simp [StreamEntry.cleared] at hcount
  omega

/-- Entry `i` alone is rewritten, to `e`, and the cells of the queues change so that the other entries own what they owned. -/
theorem of_set {i : Fin 256} {e : StreamEntry} (h : s.StreamLaws) (hs : t.streams = s.streams.set i e)
    (hlabel : e.state ≠ .free → ∀ j, j ≠ i → (s.streams.get j).state ≠ .free → (s.streams.get j).label ≠ e.label)
    (hother : ∀ j, j ≠ i → t.owned j = s.owned j) (howned : e.queued = t.owned i)
    (hretiring : e.state = .retiring → 0 < e.queued) (hfree : e.state = .free → e = .cleared) (hhop : e.addHop ≠ 0)
    (hold : ∀ q c j, c ∈ (t.queue q).cells → c.owner = some j → j ≠ i → c ∈ (s.queue q).cells)
    (hplace : ∀ q c, c ∈ (t.queue q).cells → c.owner = some i → e.queue = q)
    (hcells : t.QueuedCellsForwardable) : t.StreamLaws where
  labels j k hj hk hjk := by
    rw [hs] at hj hk hjk
    by_cases hji : j = i <;> by_cases hki : k = i
    · rw [hji, hki]
    · subst hji
      rw [Table.get_set_self] at hj hjk
      rw [Table.get_set_ne _ _ (Ne.symm hki)] at hk hjk
      exact absurd hjk.symm (hlabel hj k hki hk)
    · subst hki
      rw [Table.get_set_self] at hk hjk
      rw [Table.get_set_ne _ _ (Ne.symm hji)] at hj hjk
      exact absurd hjk (hlabel hk j hji hj)
    · rw [Table.get_set_ne _ _ (Ne.symm hji)] at hj hjk
      rw [Table.get_set_ne _ _ (Ne.symm hki)] at hk hjk
      exact h.labels j k hj hk hjk
  counts j := by
    rw [hs]
    by_cases hji : j = i
    · subst hji
      rw [Table.get_set_self]
      exact ⟨howned, hretiring, hfree⟩
    · rw [Table.get_set_ne _ _ (Ne.symm hji), hother j hji]
      exact h.counts j
  places q c j hc ho := by
    rw [hs]
    by_cases hji : j = i
    · subst hji
      rw [Table.get_set_self]
      exact hplace q c hc ho
    · rw [Table.get_set_ne _ _ (Ne.symm hji)]
      exact h.places q c j (hold q c j hc ho hji) ho
  cells := hcells
  hops j := by
    rw [hs]
    by_cases hji : j = i
    · subst hji
      rwa [Table.get_set_self]
    · rw [Table.get_set_ne _ _ (Ne.symm hji)]
      exact h.hops j

/-- An entry is rewritten with its queued count as it was, and in its queue while it has a cell there (R20 to R22). -/
theorem setStream {i : Fin 256} {e : StreamEntry} (h : s.StreamLaws)
    (hlabel : e.state ≠ .free → ∀ j, j ≠ i → (s.streams.get j).state ≠ .free → (s.streams.get j).label ≠ e.label)
    (hqueued : e.queued = (s.streams.get i).queued) (hqueue : 0 < e.queued → e.queue = (s.streams.get i).queue)
    (hretiring : e.state = .retiring → 0 < e.queued) (hfree : e.state = .free → e = .cleared) (hhop : e.addHop ≠ 0) :
    (s.setStream i e).StreamLaws := by
  obtain ⟨hcount, -, -⟩ := h.counts i
  have howned (j : Fin 256) : (s.setStream i e).owned j = s.owned j := rfl
  refine h.of_set rfl hlabel (fun j _ => howned j) (by rw [howned, hqueued, hcount]) hretiring hfree hhop
    (fun q c j hc _ _ => hc) (fun q c hc ho => ?_) h.cells
  have hpos : 0 < s.owned i := State.owned_pos hc ho
  rw [hqueue (by omega)]
  exact h.places q c i hc ho

/-- R59: a cell of an ACTIVE entry joins that entry's queue, or a cell of no entry joins any. -/
theorem accept {q : Fin 8} {c : QueuedCell} (h : s.StreamLaws) (hc : c.Forwardable)
    (howner : ∀ i, c.owner = some i → (s.streams.get i).state = .active ∧ (s.streams.get i).queue = q) :
    (s.accept q c).StreamLaws := by
  have hmem (p : Fin 8) (d : QueuedCell) (hd : d ∈ ((s.accept q c).queue p).cells) :
      d ∈ (s.queue p).cells ∨ (p = q ∧ d = c) := by
    rw [State.accept_cells] at hd
    split at hd
    next hp => simpa [hp] using hd
    next => exact .inl (by simpa using hd)
  have hcells : (s.accept q c).QueuedCellsForwardable := fun p d hd => by
    rcases hmem p d hd with hd | ⟨-, rfl⟩
    · exact h.cells p d hd
    · exact hc
  have howned := s.accept_owned q c
  cases ho : c.owner with
  | none =>
    have hs : (s.accept q c).streams = s.streams := by simp [State.accept, ho, State.ownerGains]
    simp only [ho, reduceCtorEq, if_false, Nat.add_zero] at howned
    refine ⟨by simpa only [State.LawL3, hs] using h.labels, by simpa only [State.LawL4, hs, howned] using h.counts,
      fun p d i hd hi => ?_, hcells, by simpa only [State.StreamsInRange, hs] using h.hops⟩
    rcases hmem p d hd with hd | ⟨-, rfl⟩
    · rw [hs]
      exact h.places p d i hd hi
    · simp [ho] at hi
  | some i =>
    obtain ⟨hactive, hqueue⟩ := howner i ho
    obtain ⟨hcount, -, -⟩ := h.counts i
    have hs : (s.accept q c).streams = s.streams.set i { s.streams.get i with queued := (s.streams.get i).queued + 1 } := by
      simp [State.accept, ho, State.ownerGains]
    refine h.of_set hs (fun _ j hj hlive hlabel => hj (h.labels j i hlive (by simp [hactive]) hlabel)) (fun j hj => ?_) ?_
      (fun _ => Nat.succ_pos _) (fun hf => by simp [hactive] at hf) (h.hops i) (fun p d j hd hj hji => ?_)
      (fun p d hd hi => ?_) hcells
    · rw [howned j, ho, if_neg (by simpa using hj.symm), Nat.add_zero]
    · rw [howned i, ho, if_pos rfl, ← hcount]
    · rcases hmem p d hd with hd | ⟨-, rfl⟩
      · exact hd
      · exact absurd (Option.some.inj (hj.symm.trans ho)) hji
    · rcases hmem p d hd with hd | ⟨rfl, rfl⟩
      · exact h.places p d i hd hi
      · exact hqueue

/-- R16, R18: the head of a queue leaves it, and its owner counts the departure; a RETIRING owner of no further cell is freed. -/
theorem dequeued {q : Fin 8} {c : QueuedCell} {rest : List QueuedCell} (h : s.StreamLaws) (hc : (s.queue q).cells = c :: rest) :
    (s.dequeued q c rest).StreamLaws := by
  have hmem (p : Fin 8) (d : QueuedCell) := State.mem_of_mem_dequeued (p := p) (d := d) hc
  have hcells : (s.dequeued q c rest).QueuedCellsForwardable := fun p d hd => h.cells p d (hmem p d hd)
  have howned := State.dequeued_owned hc
  have hs := s.dequeued_streams q c rest
  cases ho : c.owner with
  | none =>
    simp only [ho] at hs
    simp only [ho, reduceCtorEq, if_false, Nat.add_zero] at howned
    exact ⟨by simpa only [State.LawL3, hs] using h.labels, by simpa only [State.LawL4, hs, howned] using h.counts,
      fun p d i hd hi => by rw [hs]; exact h.places p d i (hmem p d hd) hi, hcells,
      by simpa only [State.StreamsInRange, hs] using h.hops⟩
  | some i =>
    simp only [ho] at hs
    obtain ⟨hcount, -, -⟩ := h.counts i
    have hi := howned i
    rw [ho, if_pos rfl] at hi
    have hlive : (s.streams.get i).state ≠ .free := h.not_free_of_owned (by omega)
    have hother (j : Fin 256) (hj : j ≠ i) : (s.dequeued q c rest).owned j = s.owned j := by
      rw [howned j, ho, if_neg (by simpa using hj.symm), Nat.add_zero]
    by_cases hlast : (s.streams.get i).state = .retiring ∧ (s.streams.get i).queued - 1 = 0
    · rw [StreamEntry.departed, if_pos hlast] at hs
      have hgone : (s.dequeued q c rest).owned i = 0 := by omega
      exact h.of_set hs (fun hf => absurd rfl hf) hother (by rw [hgone]; rfl) (by simp [StreamEntry.cleared]) (fun _ => rfl)
        (by simp [StreamEntry.cleared]) (fun p d j hd _ _ => hmem p d hd)
        (fun p d hd hi => absurd (State.owned_pos hd hi) (by omega)) hcells
    · rw [StreamEntry.departed, if_neg hlast] at hs
      exact h.of_set hs (fun _ j hj hjlive hlabel => hj (h.labels j i hjlive hlive hlabel)) hother (by simp only; omega)
        (fun hr => Nat.pos_of_ne_zero fun hz => hlast ⟨hr, hz⟩) (fun hf => absurd hf hlive) (h.hops i)
        (fun p d j hd _ _ => hmem p d hd) (fun p d hd hi => h.places p d i (hmem p d hd) hi) hcells

end State.StreamLaws

end Sys2Proof.Machine
end

section
/-! PROOF. Every event of the part keeps the laws of the Stream Table: cells that arrive, the slot, and the resets. -/

namespace Sys2Proof.Machine

/-- An operation that keeps the laws of the Stream Table. -/
def KeepsStreamLaws (f : State → State) : Prop := ∀ s : State, s.StreamLaws → (f s).StreamLaws

namespace KeepsStreamLaws

/-- R162: the laws do not read what is handed over, so an event may be run apart from it; a held part takes no event. -/
theorem live {f : State → State} (hf : KeepsStreamLaws f) : KeepsStreamLaws (live f) := fun s h => by
  cases hr : s.resetHeld with
  | true => rwa [live_held hr]
  | false =>
    rw [live_running hr]
    have ht := hf s.unflagged (h.of_frame rfl rfl)
    exact ht.of_frame rfl rfl

theorem foldl {α : Type} {f : State → α → State} (hf : ∀ a, KeepsStreamLaws (f · a)) (as : List α) :
    KeepsStreamLaws (as.foldl f ·) := fun _ h => List.foldlRecOn as f h fun t ht a _ => hf a t ht

end KeepsStreamLaws

/-! ### Cells that arrive (R4 to R16, R57 to R64) -/

/-- R57 to R59: a refused cell changes counters and flags alone. -/
theorem State.admitEgress_cases (s : State) (q : Fin 8) (c : QueuedCell) :
    ((s.admitEgress q c).streams = s.streams ∧ (s.admitEgress q c).pool = s.pool) ∨ s.admitEgress q c = s.accept q c := by
  unfold State.admitEgress
  split
  · exact .inl (by simp)
  · exact .inl (by simp)
  · exact .inl (by simp)
  · exact .inr rfl

namespace State.StreamLaws

variable {s : State}

theorem admitEgress {q : Fin 8} {c : QueuedCell} (h : s.StreamLaws) (hc : c.Forwardable)
    (howner : ∀ i, c.owner = some i → (s.streams.get i).state = .active ∧ (s.streams.get i).queue = q) :
    (s.admitEgress q c).StreamLaws := by
  rcases s.admitEgress_cases q c with ⟨hs, hp⟩ | he
  · exact h.of_frame hs (by rw [hp])
  · exact he ▸ h.accept hc howner

theorem policeAndAdmit {i : Fin 256} {e : StreamEntry} {x : Header} (p : Payload) (h : s.StreamLaws)
    (hactive : (s.streams.get i).state = .active) (hqueue : (s.streams.get i).queue = e.queue)
    (hkind : x.kind = .data) (hhop : x.hop ≠ 0) :
    (s.policeAndAdmit i e x p).StreamLaws := by
  have admits (t : State) (de : Bool) (ht : t.streams = s.streams) (hp : t.pool = s.pool) :
      (t.admitEgress e.queue { header := { x with de := de }, payload := p, owner := some i }).StreamLaws :=
    (h.of_frame ht (by rw [hp])).admitEgress ⟨.inl hkind, hhop⟩ fun j hj => by
      cases hj
      rw [ht]
      exact ⟨hactive, hqueue⟩
  unfold State.policeAndAdmit
  split
  · exact admits s x.de rfl rfl
  · next m _ =>
    simp only
    split
    · exact admits _ x.de (by simp) (by simp)
    · split
      · exact admits _ true (by simp) (by simp)
      · exact h.of_frame (by simp) (by simp)

theorem forwardPart {i : Fin 256} {e : StreamEntry} {x : Header} (p : Payload) (h : s.StreamLaws)
    (hactive : (s.streams.get i).state = .active) (hqueue : (s.streams.get i).queue = e.queue)
    (hkind : x.kind = .data ∨ x.kind = .mark) :
    (s.forwardPart i e x p).StreamLaws := by
  unfold State.forwardPart
  split
  · exact h.of_frame (by simp) (by simp)
  · next hhop =>
    split
    · next hdata => exact h.policeAndAdmit p hactive hqueue hdata hhop
    · refine h.admitEgress ⟨hkind, hhop⟩ fun j hj => ?_
      cases hj
      exact ⟨hactive, hqueue⟩

/-- R63: the drop queue is none of Q0..Q7. -/
theorem admitDrop (i : Fin 256) (c : RawCell) (h : s.StreamLaws) : (s.admitDrop i c).StreamLaws := by
  refine h.of_frame (by simp) ?_
  simp only [State.admitDrop]
  split
  · simp
  · split <;> simp

theorem applyAction {i : Fin 256} {e : StreamEntry} {c : RawCell} (h : s.StreamLaws) (hactive : (s.streams.get i).state = .active)
    (hqueue : (s.streams.get i).queue = e.queue)
    (hkind : (Header.ofWord c.header).kind = .data ∨ (Header.ofWord c.header).kind = .mark) :
    (s.applyAction i e c).StreamLaws := by
  simp only [State.applyAction]
  split
  · exact h.forwardPart _ hactive hqueue hkind
  · exact h.admitDrop i c
  · exact (h.admitDrop i c).forwardPart _ (by simpa using hactive) (by simpa using hqueue) hkind
  · exact h.of_frame (by simp) (by simp)

/-- R6: a cell of no entry is admitted without an owner. -/
theorem unknownLabel {x : Header} (p : Payload) (h : s.StreamLaws) (hkind : x.kind = .data ∨ x.kind = .mark) :
    (s.unknownLabel x p).StreamLaws := by
  have hcount : ((s.countDevice .unknownLabel).hand .unknownLabel).StreamLaws := h.of_frame (by simp) (by simp)
  simp only [State.unknownLabel]
  split
  · exact hcount
  · split
    · exact hcount.of_frame (by simp) (by simp)
    · next hhop => exact hcount.admitEgress ⟨hkind, hhop⟩ fun j hj => by cases hj

end State.StreamLaws

/-- R4: an entry that a lookup finds is not FREE and carries the label. -/
theorem State.lookup_some {s : State} {label : BitVec 12} {i : Fin 256} (h : s.lookup label = some i) :
    (s.streams.get i).state ≠ .free ∧ (s.streams.get i).label = label := by
  have := (Table.find?_eq_some.1 h).1
  simpa using this

/-- R2: an entry that is neither FREE nor RETIRING is ACTIVE. -/
theorem EntryState.eq_active {x : EntryState} (hf : x ≠ .free) (hr : x ≠ .retiring) : x = .active := by
  cases x <;> simp_all

namespace State.StreamLaws

variable {s : State}

theorem lookupRing {c : RawCell} (h : s.StreamLaws)
    (hkind : (Header.ofWord c.header).kind = .data ∨ (Header.ofWord c.header).kind = .mark) : (s.lookupRing c).StreamLaws := by
  simp only [State.lookupRing]
  split
  · exact h.unknownLabel _ hkind
  · next i hi =>
    split
    · exact h.of_frame (by simp) (by simp)
    · next hr =>
      have hactive := EntryState.eq_active (State.lookup_some hi).1 hr
      split
      · exact (h.of_frame (t := s.countStream i .arrived) rfl rfl).applyAction hactive rfl hkind
      · exact h.applyAction hactive rfl hkind

theorem sortCell (c : RawCell) (h : s.StreamLaws) : (s.sortCell c).StreamLaws := by
  simp only [State.sortCell]
  split
  case h_2 hk => exact h.lookupRing (.inl hk)
  case h_3 hk =>
    exact (h.of_frame (t := s.markSource (Header.ofWord c.header).label) (by simp [State.markSource])
      (by simp [State.markSource])).lookupRing (.inr hk)
  all_goals exact h.of_frame (by simp) (by simp)

/-- R14, R15: an accepted local cell has the entry's add-hop, which is not 0. -/
theorem arriveLocal (c : RawCell) (h : s.StreamLaws) : (s.arriveLocal c).StreamLaws := by
  simp only [State.arriveLocal]
  split
  · exact h.of_frame (by simp) (by simp)
  · next hkind =>
    split
    · exact h.of_frame (by simp) (by simp)
    · next i hi =>
      split
      · exact h.of_frame (by simp) (by simp)
      · next hr =>
        split
        · exact (h.of_frame (t := s.countStream i .arrived) rfl rfl).policeAndAdmit _
            (EntryState.eq_active (State.lookup_some hi).1 hr) rfl (by simpa using hkind) (h.hops i)
        · exact h.of_frame (by simp) (by simp)

end State.StreamLaws

theorem handOn_keepsStreamLaws (p : Payload) : KeepsStreamLaws (State.handOn p) := fun s h => by
  unfold State.handOn
  split
  · exact h
  · exact State.StreamLaws.sortCell _ (h.of_frame rfl rfl)

theorem localArrival_keepsStreamLaws : KeepsStreamLaws State.localArrival := fun s h => by
  unfold State.localArrival
  split
  · exact h
  · exact State.StreamLaws.arriveLocal _ (h.of_frame rfl rfl)

/-! ### The slot (R75 to R81, R84) -/

namespace State.StreamLaws

variable {s : State}

/-- R79: a purge is a departure of the head, with a buffer and counters beside it. -/
theorem purgeOne {q : Fin 8} {c : QueuedCell} {rest : List QueuedCell} (h : s.StreamLaws) (hc : (s.queue q).cells = c :: rest) :
    (s.purgeOne q c rest).StreamLaws := by
  refine (h.dequeued hc).of_frame ?_ (by simp [State.purgeOne, State.dequeued_pool])
  rw [State.dequeued_streams]
  cases ho : c.owner <;> simp [State.purgeOne, ho, State.ownerDeparts, State.departs_streams_eq]

theorem consult (q : Fin 8) (h : s.StreamLaws) : (s.consult q).StreamLaws := by
  have hpurge (cs : List QueuedCell) (t : State) (ht : t.StreamLaws) (hcs : (t.queue q).cells = cs) :
      (purgeFrom q cs t).StreamLaws := by
    induction cs generalizing t with
    | nil => exact ht
    | cons c cs ih =>
      unfold purgeFrom
      split
      · exact ih _ (ht.purgeOne hcs) (by simp [State.purgeOne, State.queue])
      · exact ht
  exact hpurge _ s h rfl

theorem takeHead (q : Fin 8) (h : s.StreamLaws) : (s.takeHead q).2.StreamLaws := by
  rcases s.takeHead_cases q with ⟨-, he⟩ | ⟨c, rest, hc, he⟩
  · rwa [he]
  · rw [he]
    exact h.dequeued hc

theorem takeControl (h : s.StreamLaws) : s.takeControl.2.StreamLaws := by
  rcases s.takeControl_cases with ⟨-, he⟩ | ⟨c, rest, -, he⟩ <;> rw [he]
  · exact h
  · exact h.of_frame rfl rfl

theorem fillFrom (qs : List (Fin 8)) (h : s.StreamLaws) : (fillFrom qs s).2.StreamLaws := by
  induction qs generalizing s with
  | nil => exact h
  | cons q qs ih =>
    unfold Machine.fillFrom
    have ht := (h.consult q).takeHead q
    split
    · split
      · next hr => rwa [hr] at ht
      · next hr =>
        rw [hr] at ht
        exact ih ht
    · exact ih h

theorem choose (e : CalEntry) (h : s.StreamLaws) : (s.choose e).2.StreamLaws := by
  unfold State.choose
  have hctl := h.takeControl
  split
  · exact (h.consult e.queue).takeHead e.queue
  · split
    · next hr => rwa [hr] at hctl
    · next t hr =>
      rw [hr] at hctl
      have hhead := (hctl.consult e.queue).takeHead e.queue
      split
      · next hr' => rwa [hr'] at hhead
      · next hr' =>
        rw [hr'] at hhead
        exact hhead.fillFrom fillOrder
  · split
    · next hr => rwa [hr] at hctl
    · next t hr =>
      rw [hr] at hctl
      exact hctl.fillFrom fillOrder

theorem finishTx (c : TxCell) (h : s.StreamLaws) : (s.finishTx c).StreamLaws := by
  unfold State.finishTx
  cases c with
  | pool c q => exact h.of_frame rfl rfl
  | control k =>
    simp only
    split <;> exact h.of_frame rfl rfl
  | idle => exact h.of_frame rfl rfl

end State.StreamLaws

namespace State.StreamLaws

variable {s : State}

theorem slotSource (h : s.StreamLaws) : s.slotSource.StreamLaws :=
  h.of_frame (by simp [State.slotSource]) (by simp [State.slotSource])

theorem countSlot (h : s.StreamLaws) : s.countSlot.StreamLaws := by
  simp only [State.countSlot]
  split <;> exact h.of_frame rfl rfl

theorem advance (h : s.StreamLaws) : s.advance.StreamLaws := by
  unfold State.advance
  split
  · exact h.of_frame rfl rfl
  · split
    · exact h.of_frame (by simp) (by simp)
    · exact h.of_frame rfl rfl

theorem transmit (c : TxCell) (h : s.StreamLaws) : (s.transmit c).StreamLaws := h.of_frame rfl rfl

end State.StreamLaws

theorem slotEvent_keepsStreamLaws : KeepsStreamLaws State.slotEvent := fun s h => by
  unfold State.slotEvent
  split
  · exact h
  · exact ((h.slotSource.countSlot.choose _).advance).transmit _

/-! ### The resets (R25, R26, R69, R71) -/

/-- The laws hold in every state whose Stream Table and pool are as after a power-on. -/
theorem State.StreamLaws.of_powerOn {t : State} (hs : t.streams = Table.fill 256 .cleared) (hp : t.pool = .powerOn) :
    t.StreamLaws :=
  .of_cleared (fun i => by simp [hs]) fun q => by simp [State.queue, hp, Pool.powerOn, EgressQueue.powerOn]

/-- R26: what RESTART TRAFFIC does to the Stream Table and to the pool. -/
theorem State.restartTraffic_frame (s : State) :
    s.restartTraffic.streams = s.streams.map StreamEntry.restarted ∧ s.restartTraffic.pool = s.pool.flush := by
  simp only [State.restartTraffic]
  split <;> split <;> simp

theorem restartTraffic_keepsStreamLaws : KeepsStreamLaws State.restartTraffic := fun s h => by
  obtain ⟨hs, hp⟩ := s.restartTraffic_frame
  have hget (i : Fin 256) : s.restartTraffic.streams.get i = (s.streams.get i).restarted := by rw [hs, Table.get_map]
  have hlive (i : Fin 256) (hi : (s.streams.get i).restarted.state ≠ .free) :
      (s.streams.get i).state ≠ .free ∧ (s.streams.get i).restarted.label = (s.streams.get i).label := by
    unfold StreamEntry.restarted at hi ⊢
    split at hi
    · exact absurd rfl hi
    · next hr => exact ⟨hi, by rw [if_neg hr]⟩
  refine .of_empty (fun i j hi hj hij => ?_) (fun q => by simp [State.queue, hp, Pool.flush]) fun i => ?_
  · rw [hget] at hi hij
    rw [hget] at hj hij
    obtain ⟨hi, hli⟩ := hlive i hi
    obtain ⟨hj, hlj⟩ := hlive j hj
    exact h.labels i j hi hj (by rw [← hli, hij, hlj])
  · obtain ⟨-, -, hfree⟩ := h.counts i
    rw [hget]
    unfold StreamEntry.restarted
    split
    · simp [StreamEntry.cleared]
    · next hr => exact ⟨rfl, hr, fun hf => by rw [hfree hf]; rfl, h.hops i⟩

theorem completeSlot_keepsStreamLaws (straps : BitVec 6) : KeepsStreamLaws (State.completeSlot straps) := fun s h => by
  unfold State.completeSlot
  split
  · exact h
  · next c _ =>
    split
    · exact h.finishTx c
    · exact restartTraffic_keepsStreamLaws _ (h.finishTx c)
    · exact .of_powerOn rfl rfl

end Sys2Proof.Machine
end

section
/-! PROOF. The intake commands, the remaining events, and the step: laws L3, L4 and L11 are kept. -/

namespace Sys2Proof.Machine

theorem State.StreamLaws.hand {s : State} (f : EventFlag) (h : s.StreamLaws) : (s.hand f).StreamLaws :=
  h.of_frame (by simp) (by simp)

/-! ### Events that leave every stream entry and every queued cell as they were -/

/-- An operation that touches neither the Stream Table nor the egress queues keeps the laws. -/
theorem KeepsStreamLaws.of_frame {f : State → State}
    (hf : ∀ s, (f s).streams = s.streams ∧ (f s).pool.queues = s.pool.queues) : KeepsStreamLaws f :=
  fun s h => h.of_frame (hf s).1 (hf s).2

theorem huntByte_keepsStreamLaws (b : Byte) : KeepsStreamLaws (State.huntByte b) := .of_frame fun s => by
  unfold State.huntByte
  split <;> exact ⟨rfl, rfl⟩

theorem State.syncBad_frame (n : Nat) (w : Word) (s : State) :
    (s.syncBad n w).streams = s.streams ∧ (s.syncBad n w).pool = s.pool := by
  unfold State.syncBad
  split <;> simp

theorem testHeader_keepsStreamLaws (w : Word) : KeepsStreamLaws (State.testHeader w) := .of_frame fun s => by
  unfold State.testHeader
  split
  · split
    · exact ⟨rfl, rfl⟩
    · split
      · unfold State.presyncGood
        split <;> simp
      · exact ⟨rfl, rfl⟩
    · split
      · exact ⟨rfl, rfl⟩
      · simp [State.syncBad_frame]
  · exact ⟨rfl, rfl⟩

/-- R28, R32: a source event taken at a meter. -/
theorem sourceAt_keepsStreamLaws (o : Origin) (m : Fin 128) : KeepsStreamLaws (State.sourceAt · o m) := .of_frame fun s => by
  simp only [State.sourceAt]
  split
  · split <;> simp [State.expireMeter]
  · exact ⟨rfl, rfl⟩

theorem takeSourceEvent_keepsStreamLaws (p : Origin → Bool) (m : Option (Fin 128)) :
    KeepsStreamLaws (State.takeSourceEvent p m) := by
  intro s h
  unfold State.takeSourceEvent
  split
  · exact h
  · exact KeepsStreamLaws.foldl (sourceAt_keepsStreamLaws _) _ _ (h.of_frame rfl rfl)

theorem takeSourceOperand_keepsStreamLaws (p : Origin → Bool) (m : Option Nat) :
    KeepsStreamLaws (State.takeSourceOperand p m) := by
  intro s h
  unfold State.takeSourceOperand
  split
  · exact takeSourceEvent_keepsStreamLaws _ _ s h
  · split
    · exact h
    · exact takeSourceEvent_keepsStreamLaws _ _ s h

theorem takeExpiry_keepsStreamLaws (m : Nat) : KeepsStreamLaws (State.takeExpiry m) := by
  intro s h
  unfold State.takeExpiry
  split
  · exact h
  · simp only
    split
    · exact takeSourceEvent_keepsStreamLaws _ _ s h
    · exact h

theorem State.cutOpen_frame (s : State) : s.cutOpen.streams = s.streams ∧ s.cutOpen.pool = s.pool := by
  unfold State.cutOpen
  split <;> simp [State.setOpen]

theorem addFirst_keepsStreamLaws (w : Word) : KeepsStreamLaws fun s => (State.addFirst w s).portEdge := .of_frame fun s => by
  simp only [State.addFirst]
  split <;> simp [State.setOpen, State.cutOpen_frame]

theorem addContinue_keepsStreamLaws (w : Word) :
    KeepsStreamLaws fun s => (State.addContinue w s).portEdge := .of_frame fun s => by
  simp only [State.addContinue]
  split
  · simp
  · split <;> simp [State.setOpen]
  · split <;> simp [State.setOpen]

theorem takeDrop_keepsStreamLaws : KeepsStreamLaws fun s => s.takeDrop.portEdge := .of_frame fun s => by
  simp only [State.takeDrop]
  split
  · simp
  · split <;> simp

theorem teardown_keepsStreamLaws (i : Fin 4) : KeepsStreamLaws (State.teardown · i) := .of_frame fun s => by simp

theorem sessionTick_keepsStreamLaws : KeepsStreamLaws State.sessionTick := fun s h => by
  unfold State.sessionTick State.expireSessions
  split
  · exact h.of_frame rfl rfl
  · refine State.StreamLaws.hand _ (KeepsStreamLaws.foldl teardown_keepsStreamLaws _ _ ?_)
    exact h.of_frame rfl rfl

theorem takeSessionTick_keepsStreamLaws : KeepsStreamLaws State.takeSessionTick := fun s h => by
  unfold State.takeSessionTick
  split
  · exact h
  · exact sessionTick_keepsStreamLaws s h

theorem takeSessionExpiry_keepsStreamLaws : KeepsStreamLaws State.takeSessionExpiry := fun s h => by
  unfold State.takeSessionExpiry
  split
  · exact h
  · split
    · exact h
    · exact sessionTick_keepsStreamLaws s h

theorem takeEventTick_keepsStreamLaws : KeepsStreamLaws State.takeEventTick := .of_frame fun s => by
  unfold State.takeEventTick
  split <;> exact ⟨rfl, rfl⟩

theorem takeTimeout_keepsStreamLaws : KeepsStreamLaws State.takeTimeout := .of_frame fun s => by
  unfold State.takeTimeout
  split
  · exact ⟨rfl, rfl⟩
  · split <;> exact ⟨rfl, rfl⟩

theorem setFlag_keepsStreamLaws (f : EventFlag) : KeepsStreamLaws (State.setFlag f) := .of_frame fun s => by
  unfold State.setFlag
  split <;> exact ⟨rfl, rfl⟩

theorem buildReport_keepsStreamLaws : KeepsStreamLaws State.buildReport := .of_frame fun s => by
  unfold State.buildReport
  split
  · exact ⟨rfl, rfl⟩
  · split <;> exact ⟨rfl, rfl⟩

theorem issueReport_keepsStreamLaws : KeepsStreamLaws State.issueReport := .of_frame fun s => by
  unfold State.issueReport
  split
  · exact ⟨rfl, rfl⟩
  · split <;> exact ⟨rfl, rfl⟩

theorem sendingComplete_keepsStreamLaws : KeepsStreamLaws State.sendingComplete := .of_frame fun s => by
  unfold State.sendingComplete
  split <;> exact ⟨rfl, rfl⟩

theorem releasePin_keepsStreamLaws (straps : BitVec 6) : KeepsStreamLaws (State.releasePin · straps) := .of_frame fun s => by
  unfold State.releasePin
  split <;> exact ⟨rfl, rfl⟩

/-! ### The execution of an intake command (R126, R128) -/

/-- R126: an execution keeps the laws where the steps after step 1 of R128 do. -/
theorem KeepsStreamLaws.execution {op : Option Op} {body : Control → State → State} (hb : ∀ c, KeepsStreamLaws (body c)) :
    KeepsStreamLaws (execution op body) := fun s h => by
  rcases execution_cases op body s with he | ⟨k, rest, -, -, he | ⟨-, he⟩⟩
  · rwa [he]
  · rw [he]
    exact h.of_frame rfl rfl
  · rw [he]
    exact hb _ _ (h.of_frame rfl rfl)

/-- The checks and effects of a command that keep the laws. -/
def OwnKeepsStreamLaws (own : Control → Fin 4 → State → Done) : Prop :=
  ∀ c i s, s.StreamLaws → (own c i s).state.StreamLaws

theorem State.cacheReply_frame (s : State) (i : Fin 4) (k : ControlCell) :
    (s.cacheReply i k).streams = s.streams ∧ (s.cacheReply i k).pool = s.pool := by
  unfold State.cacheReply
  split <;> exact ⟨rfl, rfl⟩

theorem State.advanceSeq_frame (s : State) (i : Fin 4) (n : Byte) :
    (s.advanceSeq i n).streams = s.streams ∧ (s.advanceSeq i n).pool = s.pool := by
  unfold State.advanceSeq
  split <;> exact ⟨rfl, rfl⟩

theorem State.StreamLaws.conclude {s : State} {d : Done} (c : Control) (i : Fin 4) (h : d.state.StreamLaws) :
    (s.conclude c i d).StreamLaws :=
  h.of_frame (by simp [State.conclude, State.cacheReply_frame]) (by simp [State.conclude, State.cacheReply_frame])

/-- R128: steps 4 to 7 touch the session of the sender alone. -/
theorem OwnKeepsStreamLaws.inSession {claim : Control → Bool} {own : Control → Fin 4 → State → Done}
    (ho : OwnKeepsStreamLaws own) : ∀ c, KeepsStreamLaws (inSession claim own c) := fun c s h => by
  unfold Machine.inSession
  split
  · exact h.of_frame rfl rfl
  · next i _ =>
    have hidle : (s.restartIdle i).StreamLaws := h.of_frame (by simp) (by simp)
    simp only
    split
    · exact hidle
    · split
      · have hseq : ((s.restartIdle i).advanceSeq i c.seq).StreamLaws :=
          hidle.of_frame (State.advanceSeq_frame _ _ _).1 (by rw [(State.advanceSeq_frame _ _ _).2])
        split
        · exact .conclude c i hseq
        · exact .conclude c i (ho c i _ hseq)
      · split <;> exact hidle.of_frame rfl rfl

/-- A command's own part that reaches neither the Stream Table nor the pool. -/
structure Done.Apart (d : Done) (s : State) : Prop where
  streams : d.state.streams = s.streams
  pool    : d.state.pool = s.pool

/-! ### The intake commands -/

section
variable (c : Control) (i : Fin 4) (s : State)

theorem ownCalWrite_apart : (ownCalWrite c i s).Apart s := by
  unfold ownCalWrite
  split
  · split
    · exact ⟨rfl, rfl⟩
    · split <;> exact ⟨rfl, rfl⟩
  · exact ⟨rfl, rfl⟩

theorem ownCalLength_apart : (ownCalLength c i s).Apart s := by
  unfold ownCalLength
  split
  · split <;> exact ⟨rfl, rfl⟩
  · exact ⟨rfl, rfl⟩

theorem ownCalCopy_apart : (ownCalCopy c i s).Apart s := by
  unfold ownCalCopy
  split <;> exact ⟨rfl, rfl⟩

theorem ownCalRead_state : (ownCalRead c i s).state = s := by
  unfold ownCalRead
  split
  · rfl
  · split <;> rfl

theorem ownCalCommit_apart : (ownCalCommit c i s).Apart s := by
  unfold ownCalCommit
  split
  · exact ⟨rfl, rfl⟩
  · split <;> exact ⟨rfl, rfl⟩

theorem ownCalCancel_apart : (ownCalCancel c i s).Apart s := by
  unfold ownCalCancel
  split <;> exact ⟨rfl, rfl⟩

theorem ownEventClear_apart : (ownEventClear c i s).Apart s := by
  unfold ownEventClear
  split <;> exact ⟨rfl, rfl⟩

theorem ownReportAck_apart : (ownReportAck c i s).Apart s := by
  simp only [ownReportAck]
  split_ifs <;> exact ⟨rfl, rfl⟩

theorem ownReportRearm_apart : (ownReportRearm c i s).Apart s := by
  unfold ownReportRearm
  split_ifs <;> exact ⟨rfl, rfl⟩

theorem State.writeMeter_frame (m : Fin 128) (x : Meter) :
    (s.writeMeter m x).streams = s.streams ∧ (s.writeMeter m x).pool = s.pool := by
  simp only [State.writeMeter, State.name, State.unname]
  split
  · exact ⟨rfl, rfl⟩
  · split <;> split <;> exact ⟨rfl, rfl⟩

theorem ownMeterSet_apart : (ownMeterSet c i s).Apart s := by
  unfold ownMeterSet
  split
  · exact ⟨rfl, rfl⟩
  · split
    · exact ⟨rfl, rfl⟩
    · split_ifs
      · exact ⟨rfl, rfl⟩
      · exact ⟨rfl, rfl⟩
      · exact ⟨(State.writeMeter_frame s _ _).1, (State.writeMeter_frame s _ _).2⟩

theorem ownMeterRead_state : (ownMeterRead c i s).state = s := by
  unfold ownMeterRead
  split <;> rfl

theorem State.setRunning_frame (running : Bool) (ms : List (Fin 128)) :
    (s.setRunning running ms).streams = s.streams ∧ (s.setRunning running ms).pool = s.pool :=
  List.foldlRecOn (motive := fun t : State => t.streams = s.streams ∧ t.pool = s.pool) ms _ ⟨rfl, rfl⟩ fun _ ht _ _ => ht

theorem setRunState_apart (running : Bool) : (setRunState running c s).Apart s := by
  unfold setRunState
  split
  · exact ⟨rfl, rfl⟩
  · exact ⟨(State.setRunning_frame s _ _).1, (State.setRunning_frame s _ _).2⟩

theorem ownMeterReload_apart : (ownMeterReload c i s).Apart s := by
  unfold ownMeterReload
  split <;> exact ⟨rfl, rfl⟩

theorem ownQueueRead_state : (ownQueueRead c i s).state = s := by
  simp only [ownQueueRead]
  split
  · rfl
  · split <;> rfl

theorem ownClose_apart : (ownClose c i s).Apart s := ⟨by simp [ownClose], by simp [ownClose]⟩

theorem ownClaim_apart : (ownClaim c i s).Apart s := by
  unfold ownClaim
  split
  · exact ⟨rfl, rfl⟩
  · split <;> exact ⟨rfl, rfl⟩

theorem ownRelease_apart : (ownRelease c i s).Apart s := by
  unfold ownRelease
  split <;> exact ⟨rfl, rfl⟩

theorem ownSet_apart : (ownSet c i s).Apart s := by
  unfold ownSet
  split
  · exact ⟨rfl, rfl⟩
  · split
    · exact ⟨rfl, rfl⟩
    · split <;> exact ⟨rfl, rfl⟩

theorem ownGet_state : (ownGet c i s).state = s := by
  unfold ownGet
  split <;> rfl

theorem ownRestart_apart : (ownRestart c i s).Apart s := by
  unfold ownRestart
  split <;> exact ⟨rfl, rfl⟩

theorem ownStreamRead_state : (ownStreamRead c i s).state = s := by
  unfold ownStreamRead
  split <;> rfl

theorem ownStreamFind_state : (ownStreamFind c i s).state = s := by
  unfold ownStreamFind
  split
  · rfl
  · simp only
    split <;> rfl

theorem ownSnapTake_apart : (ownSnapTake c i s).Apart s := by
  unfold ownSnapTake
  split
  · exact ⟨rfl, rfl⟩
  · split
    · exact ⟨rfl, rfl⟩
    · split <;> exact ⟨rfl, rfl⟩

theorem ownSnapRead_state : (ownSnapRead c i s).state = s := by
  simp only [ownSnapRead]
  split
  · rfl
  · split <;> rfl

theorem ownSnapRelease_apart : (ownSnapRelease c i s).Apart s := by
  unfold ownSnapRelease
  split
  · exact ⟨rfl, rfl⟩
  · split <;> exact ⟨rfl, rfl⟩

end

/-! ### The commands that write the Stream Table or an egress queue (R20 to R22, R66) -/

/-- R1: an add-hop that a command carries is not 0. -/
theorem decodeHop_ne_zero {x : Nat} {hop : BitVec 4} (h : decodeHop x = some hop) : hop ≠ 0 := by
  unfold decodeHop at h
  split at h
  · next hx =>
    cases h
    intro hz
    have := congrArg BitVec.toNat hz
    simp at this
    omega
  · cases h

/-- R20: the entry that seven well-coded fields make. -/
theorem StreamFields.entry_some {f : StreamFields} {e : StreamEntry} (h : f.entry = some e) :
    e.label = f.label ∧ e.state = .active ∧ e.queued = 0 ∧ f.addHop = some e.addHop := by
  unfold StreamFields.entry at h
  split at h
  · next hhop =>
    cases h
    exact ⟨rfl, rfl, rfl, hhop⟩
  · cases h

/-- R22: STREAM-SET leaves an entry its label, state and queued count, and gives it an add-hop of its own or one carried. -/
theorem StreamEntry.changed_some {e x : StreamEntry} {arg : Byte} {f : StreamFields} (h : e.changed arg f = some x) :
    x.label = e.label ∧ x.state = e.state ∧ x.queued = e.queued ∧ (x.addHop = e.addHop ∨ f.addHop = some x.addHop) := by
  unfold StreamEntry.changed at h
  split at h
  · next hhop =>
    cases h
    refine ⟨rfl, rfl, rfl, ?_⟩
    unfold selected at hhop
    split at hhop
    · exact .inr hhop
    · exact .inl (Option.some.inj hhop).symm
  · cases h

/-- R4: where a lookup finds nothing, every entry is FREE or carries another label. -/
theorem State.lookup_none {s : State} {label : BitVec 12} :
    s.lookup label = none ↔ ∀ i, (s.streams.get i).state ≠ .free → (s.streams.get i).label ≠ label := by
  rw [State.lookup, Table.find?_eq_none]
  simp

theorem ownStreamAdd_keepsStreamLaws : OwnKeepsStreamLaws ownStreamAdd := fun c i s h => by
  unfold ownStreamAdd
  split
  · exact h
  · next e he =>
    obtain ⟨-, hactive, hqueued, hhop⟩ := StreamFields.entry_some he
    split
    · exact h
    · next hnone =>
      split
      · exact h
      · next n hn =>
        have hfree : s.streams.get n = .cleared := (h.counts n).2.2 (by simpa using (Table.find?_eq_some.1 hn).1)
        refine (h.setStream (i := n) (e := e) (fun _ j _ hj => State.lookup_none.1 hnone j hj) ?_ (by simp [hqueued])
          (by simp [hactive]) (by simp [hactive]) (decodeHop_ne_zero hhop)).of_frame rfl rfl
        rw [hqueued, hfree]
        rfl

theorem ownStreamSet_keepsStreamLaws : OwnKeepsStreamLaws ownStreamSet := fun c i s h => by
  unfold ownStreamSet
  split
  · exact h
  · next n _ =>
    simp only
    split
    · exact h
    · exact h
    · next hactive =>
      split
      · exact h
      · next x hx =>
        obtain ⟨hlabel, hstate, hqueued, hhop⟩ := StreamEntry.changed_some hx
        split
        · exact h
        · next hq =>
          refine h.setStream (fun _ j hj hlive hl => hj (h.labels j n hlive (by simp [hactive]) (hl.trans hlabel))) hqueued
            (fun hpos => ?_) (by simp [hstate, hactive]) (by simp [hstate, hactive]) ?_
          · by_contra hne
            exact hq ⟨hne, by rwa [← hqueued]⟩
          · rcases hhop with hhop | hhop
            · rw [hhop]
              exact h.hops n
            · exact decodeHop_ne_zero hhop

theorem ownStreamRemove_keepsStreamLaws : OwnKeepsStreamLaws ownStreamRemove := fun c i s h => by
  unfold ownStreamRemove
  split
  · exact h
  · next n _ =>
    simp only
    split
    · exact h
    · exact h
    · next hactive =>
      split
      · next hz =>
        exact (h.setStream (fun hf => absurd rfl hf) hz.symm (by simp [StreamEntry.cleared]) (by simp [StreamEntry.cleared])
          (fun _ => rfl) (by simp [StreamEntry.cleared])).hand _
      · next hz =>
        exact h.setStream (fun _ j hj hlive hl => hj (h.labels j n hlive (by simp [hactive]) hl)) rfl (fun _ => rfl)
          (fun _ => Nat.pos_of_ne_zero hz) (by simp) (h.hops n)

/-- R66: QUEUE-SET leaves a queue its cells. -/
theorem EgressQueue.changed_cells {x y : EgressQueue} {arg : Byte} {f : QueueFields} (h : x.changed arg f = some y) :
    y.cells = x.cells := by
  unfold EgressQueue.changed at h
  split at h
  · split at h
    · cases h
    · cases h
      rfl
  · cases h

theorem ownQueueSet_keepsStreamLaws : OwnKeepsStreamLaws ownQueueSet := fun c i s h => by
  unfold ownQueueSet
  split
  · exact h
  · next q _ =>
    split
    · exact h
    · next x hx =>
      split
      · exact h
      · refine h.of_eq rfl fun p => ?_
        by_cases hp : p = q
        · subst hp
          rw [State.queue_setQueue_self, EgressQueue.changed_cells hx]
        · rw [State.queue_setQueue_ne _ _ hp]

/-! ### OPEN and DISCOVER, which pass the session steps by (R135, R136) -/

theorem bodyDiscover_keepsStreamLaws (c : Control) : KeepsStreamLaws (bodyDiscover c) := .of_frame fun s => by
  simp only [bodyDiscover, State.sendReply]
  split <;> simp

theorem bodyOpen_keepsStreamLaws (c : Control) : KeepsStreamLaws (bodyOpen c) := .of_frame fun s => by
  unfold bodyOpen
  split
  · split
    · exact ⟨rfl, rfl⟩
    · split <;> simp [State.resend, State.sendReply, State.newSession]
  · split <;> exact ⟨rfl, rfl⟩

/-! ### Every command, and the step -/

/-- An intake command whose own part keeps the laws keeps them. -/
theorem intake_keepsStreamLaws {op : Option Op} {claim : Control → Bool} {own : Control → Fin 4 → State → Done}
    (ho : OwnKeepsStreamLaws own) : KeepsStreamLaws (live (execution op (inSession claim own))) :=
  (KeepsStreamLaws.execution ho.inSession).live

/-- The same for an intake command that reaches neither the Stream Table nor the pool. -/
theorem apart_keepsStreamLaws {op : Option Op} {claim : Control → Bool} {own : Control → Fin 4 → State → Done}
    (ho : ∀ c i s, (own c i s).Apart s) : KeepsStreamLaws (live (execution op (inSession claim own))) :=
  intake_keepsStreamLaws fun c i s h => h.of_frame (ho c i s).streams (by rw [(ho c i s).pool])

/-- The same for an intake command that changes nothing of its own. -/
theorem query_keepsStreamLaws {op : Option Op} {claim : Control → Bool} {own : Control → Fin 4 → State → Done}
    (ho : ∀ c i s, (own c i s).state = s) : KeepsStreamLaws (live (execution op (inSession claim own))) :=
  apart_keepsStreamLaws fun c i s => ⟨by rw [ho c i s], by rw [ho c i s]⟩

/-- R2, R16, R18, R22: every command keeps the laws of the Stream Table. -/
theorem exec_keepsStreamLaws (c : Instr) (s : State) (h : s.StreamLaws) : ∃ t, exec c s = .next t ∧ t.StreamLaws :=
  match c with
  | .powerOn => ⟨_, rfl, .of_powerOn rfl rfl⟩
  | .resetPinRelease straps => ⟨_, rfl, releasePin_keepsStreamLaws straps s h⟩
  | .huntWindowTest b => ⟨_, rfl, (huntByte_keepsStreamLaws b).live s h⟩
  | .headerTest w => ⟨_, rfl, (testHeader_keepsStreamLaws w).live s h⟩
  | .ringCellArrival p => ⟨_, rfl, (handOn_keepsStreamLaws p).live s h⟩
  | .slotSourceEvent m => ⟨_, rfl, (takeSourceOperand_keepsStreamLaws _ m).live s h⟩
  | .markSourceEvent _ m => ⟨_, rfl, (takeSourceOperand_keepsStreamLaws _ m).live s h⟩
  | .cascadeSourceEvent _ m => ⟨_, rfl, (takeSourceOperand_keepsStreamLaws _ m).live s h⟩
  | .meterExpiry m => ⟨_, rfl, (takeExpiry_keepsStreamLaws m).live s h⟩
  | .addWordFirst w => ⟨_, rfl, (addFirst_keepsStreamLaws w).live s h⟩
  | .addWordContinue w => ⟨_, rfl, (addContinue_keepsStreamLaws w).live s h⟩
  | .localCellArrival => ⟨_, rfl, localArrival_keepsStreamLaws.live s h⟩
  | .dropTake => ⟨_, rfl, takeDrop_keepsStreamLaws.live s h⟩
  | .slotEvent => ⟨_, rfl, slotEvent_keepsStreamLaws.live s h⟩
  | .sessionTick => ⟨_, rfl, takeSessionTick_keepsStreamLaws.live s h⟩
  | .sessionExpiry => ⟨_, rfl, takeSessionExpiry_keepsStreamLaws.live s h⟩
  | .eventUnitTick => ⟨_, rfl, takeEventTick_keepsStreamLaws.live s h⟩
  | .reportTimeout => ⟨_, rfl, takeTimeout_keepsStreamLaws.live s h⟩
  | .slotCompletion straps => ⟨_, rfl, (completeSlot_keepsStreamLaws straps).live s h⟩
  | .reportSendingComplete => ⟨_, rfl, sendingComplete_keepsStreamLaws.live s h⟩
  | .eventFlagSet f => ⟨_, rfl, by
      split
      · exact h
      · exact setFlag_keepsStreamLaws f s h⟩
  | .reportBuild => ⟨_, rfl, buildReport_keepsStreamLaws.live s h⟩
  | .reportIssue => ⟨_, rfl, issueReport_keepsStreamLaws.live s h⟩
  | .badOp => ⟨_, rfl, query_keepsStreamLaws (fun _ _ _ => rfl) s h⟩
  | .discover => ⟨_, rfl, (KeepsStreamLaws.execution bodyDiscover_keepsStreamLaws).live s h⟩
  | .openSession => ⟨_, rfl, (KeepsStreamLaws.execution bodyOpen_keepsStreamLaws).live s h⟩
  | .closeSession => ⟨_, rfl, apart_keepsStreamLaws ownClose_apart s h⟩
  | .ping => ⟨_, rfl, query_keepsStreamLaws (fun _ _ _ => rfl) s h⟩
  | .claim => ⟨_, rfl, apart_keepsStreamLaws ownClaim_apart s h⟩
  | .release => ⟨_, rfl, apart_keepsStreamLaws ownRelease_apart s h⟩
  | .set => ⟨_, rfl, apart_keepsStreamLaws ownSet_apart s h⟩
  | .get => ⟨_, rfl, query_keepsStreamLaws ownGet_state s h⟩
  | .status => ⟨_, rfl, query_keepsStreamLaws (fun _ _ _ => rfl) s h⟩
  | .restart => ⟨_, rfl, apart_keepsStreamLaws ownRestart_apart s h⟩
  | .streamAdd => ⟨_, rfl, intake_keepsStreamLaws ownStreamAdd_keepsStreamLaws s h⟩
  | .streamSet => ⟨_, rfl, intake_keepsStreamLaws ownStreamSet_keepsStreamLaws s h⟩
  | .streamRemove => ⟨_, rfl, intake_keepsStreamLaws ownStreamRemove_keepsStreamLaws s h⟩
  | .streamRead => ⟨_, rfl, query_keepsStreamLaws ownStreamRead_state s h⟩
  | .streamFind => ⟨_, rfl, query_keepsStreamLaws ownStreamFind_state s h⟩
  | .meterSet => ⟨_, rfl, apart_keepsStreamLaws ownMeterSet_apart s h⟩
  | .meterRead => ⟨_, rfl, query_keepsStreamLaws ownMeterRead_state s h⟩
  | .meterHold => ⟨_, rfl, apart_keepsStreamLaws (fun c _ s => setRunState_apart c s false) s h⟩
  | .meterRun => ⟨_, rfl, apart_keepsStreamLaws (fun c _ s => setRunState_apart c s true) s h⟩
  | .meterReload => ⟨_, rfl, apart_keepsStreamLaws ownMeterReload_apart s h⟩
  | .queueSet => ⟨_, rfl, intake_keepsStreamLaws ownQueueSet_keepsStreamLaws s h⟩
  | .queueRead => ⟨_, rfl, query_keepsStreamLaws ownQueueRead_state s h⟩
  | .calWrite => ⟨_, rfl, apart_keepsStreamLaws ownCalWrite_apart s h⟩
  | .calLength => ⟨_, rfl, apart_keepsStreamLaws ownCalLength_apart s h⟩
  | .calCopy => ⟨_, rfl, apart_keepsStreamLaws ownCalCopy_apart s h⟩
  | .calRead => ⟨_, rfl, query_keepsStreamLaws ownCalRead_state s h⟩
  | .calCommit => ⟨_, rfl, apart_keepsStreamLaws ownCalCommit_apart s h⟩
  | .calCancel => ⟨_, rfl, apart_keepsStreamLaws ownCalCancel_apart s h⟩
  | .snapTake => ⟨_, rfl, apart_keepsStreamLaws ownSnapTake_apart s h⟩
  | .snapRead => ⟨_, rfl, query_keepsStreamLaws ownSnapRead_state s h⟩
  | .snapRelease => ⟨_, rfl, apart_keepsStreamLaws ownSnapRelease_apart s h⟩
  | .eventRead => ⟨_, rfl, query_keepsStreamLaws (fun _ _ _ => rfl) s h⟩
  | .eventClear => ⟨_, rfl, apart_keepsStreamLaws ownEventClear_apart s h⟩
  | .reportAck => ⟨_, rfl, apart_keepsStreamLaws ownReportAck_apart s h⟩
  | .reportRearm => ⟨_, rfl, apart_keepsStreamLaws ownReportRearm_apart s h⟩

/-- A step keeps the laws of the Stream Table: the command at the front of the queue does, and so does an edge of LCLK. -/
theorem step_keepsStreamLaws {s t : State} (h : s.StreamLaws) (hstep : step s = .next t) : t.StreamLaws := by
  unfold step at hstep
  split at hstep
  · cases hstep
    exact h.of_frame rfl rfl
  · next c rest _ =>
    obtain ⟨u, hu, hlaws⟩ := exec_keepsStreamLaws c { s with pending := rest } (h.of_frame rfl rfl)
    cases hu.symm.trans hstep
    exact hlaws

/-- Settles O57: the five laws together are the invariant `State.StreamLaws`. -/
theorem streamLawsKept : Obligations.StreamLawsKept := by
  intro s t labels counts places cells hops hstep
  obtain ⟨labels, counts, places, cells, hops⟩ := step_keepsStreamLaws ⟨labels, counts, places, cells, hops⟩ hstep
  exact ⟨labels, counts, places, cells, hops⟩

end Sys2Proof.Machine
end

section
/-! PROOF. Power-on and reset, policing, and the STREAM commands. -/

namespace Sys2Proof.Machine

/-! ### Power-on and reset -/

/-- R106: the IDLE cell, its header check worked out. -/
theorem RawCell.idle_eq : RawCell.idle = { header := 0x0000003C#32, payload := 0 } := by decide +kernel

/-- Settles O4: POWER_ON writes every block with its power-on constant, so each value is read off it. -/
theorem powerOnValues : Obligations.PowerOnValues := by
  intro s
  refine ⟨s.powerOn, rfl, rfl, rfl, Table.get_fill _, Table.get_fill _, rfl, rfl, rfl, Table.get_fill _, Table.get_fill _, rfl,
    Table.get_fill _, rfl, rfl, rfl, rfl, rfl, rfl, rfl, rfl, rfl, rfl, rfl, rfl, RawCell.idle_eq, rfl, rfl,
    Table.get_fill _, rfl, rfl, Table.get_fill _, Table.get_fill _, Table.get_fill _, rfl, rfl, rfl, rfl⟩

/-! The records of the state after reset -/

theorem reset_queue (q : Fin 8) : State.reset.queue q = .powerOn := Table.get_fill _ _

theorem reset_meter (m : Fin 128) : State.reset.meter m = .powerOn := Table.get_fill _ _

theorem reset_session (i : Fin 4) : State.reset.sess.entries.get i = none := Table.get_fill _ _

theorem reset_streamLaws : State.reset.StreamLaws := .of_powerOn rfl rfl

/-- Laws L5 and L6 after reset: every meter is as R48 gives it, and none names another. -/
theorem reset_meterLaws : State.reset.LawL5 ∧ State.reset.LawL6 := by
  refine ⟨fun m => by simp [reset_meter, Meter.powerOn], fun m n h => by simp [reset_meter, Meter.powerOn] at h,
    fun m p h => by simp [reset_meter, Meter.powerOn] at h, fun m => ?_⟩
  have hnamers : State.reset.namers m = 0 :=
    List.countP_eq_zero.2 fun x hx => by rw [List.eq_of_mem_replicate hx]; simp [Meter.powerOn]
  rw [hnamers, reset_meter]
  rfl

/-- Settles O55: the records of each table are equal after reset, so each law is one of a single record. -/
theorem resetIsLawful : Obligations.ResetIsLawful where
  l1 := by unfold State.LawL1; decide
  l2 := ⟨fun q => by simp [reset_queue, EgressQueue.Bounded, EgressQueue.powerOn, EgressQueue.depth], by decide, by decide⟩
  l3 := reset_streamLaws.labels
  l4 := reset_streamLaws.counts
  l5 := reset_meterLaws.1
  l6 := reset_meterLaws.2
  l7 := ⟨nofun, nofun, fun h => absurd rfl h, fun _ => ⟨rfl, rfl, rfl⟩⟩
  l8 := ⟨fun i j n h => by simp [State.managerOf, reset_session] at h, nofun⟩
  l9 := by unfold State.LawL9 Bank.LengthOk; decide
  l11 := reset_streamLaws.places
  l12 := ⟨by decide, nofun, by decide⟩
  cells := reset_streamLaws.cells
  renewed := by unfold State.RenewedCarried; decide
  engine := by unfold State.EngineOk; decide
  port := ⟨by decide, trivial, by decide, fun _ => rfl⟩
  receiver := ⟨fun _ => ⟨rfl, rfl, rfl⟩, nofun, nofun, nofun, by decide⟩
  ranges := ⟨by unfold Settings.InRange; decide, fun m => by simp [reset_meter, Meter.powerOn, Meter.InRange],
    reset_streamLaws.hops, fun i x h => by simp [reset_session] at h, by decide, nofun⟩

/-! ### Policing (R9, R35, R36) -/

section
variable {s : State} {i : Fin 256} {e : StreamEntry} {h : Header} {p : Payload} {m : Fin 128}

/-- R35: a meter without a partner finds a cell conforming where it has a credit, and is charged for it. -/
theorem State.tested_alone (hp : (s.meter m).partner = none) (hm : 1 ≤ (s.meter m).credit) :
    s.conforms m = true ∧ s.tested m = s.charge m := by
  have hc : s.conforms m = true := by simpa [State.conforms, hp] using hm
  exact ⟨hc, by simp [State.tested, hc, hp]⟩

/-- R36: a meter with a partner asks both for a credit, and both are charged. -/
theorem State.tested_partner {n : Fin 128} (hp : (s.meter m).partner = some n) (hm : 1 ≤ (s.meter m).credit)
    (hn : 1 ≤ (s.meter n).credit) : s.conforms m = true ∧ s.tested m = (s.charge m).charge n := by
  have hc : s.conforms m = true := by simpa [State.conforms, hp] using ⟨hm, hn⟩
  exact ⟨hc, by simp [State.tested, hc, hp]⟩

/-- R35: without a credit of its own a meter finds no cell conforming. -/
theorem State.not_conforms_of_credit (hm : (s.meter m).credit = 0) : s.conforms m = false := by
  unfold State.conforms
  split <;> simp [hm]

/-- R36: without a credit of its partner a meter finds no cell conforming. -/
theorem State.not_conforms_of_partner {n : Fin 128} (hp : (s.meter m).partner = some n) (hn : (s.meter n).credit = 0) :
    s.conforms m = false := by
  simp [State.conforms, hp, hn]

/-- R9: without a meter every cell goes to admission as it is. -/
theorem State.policeAndAdmit_unmetered (he : e.meter = none) :
    s.policeAndAdmit i e h p = s.admitEgress e.queue { header := h, payload := p, owner := some i } := by
  simp only [State.policeAndAdmit, he]

/-- R9: a conforming cell goes to admission as it is. -/
theorem State.policeAndAdmit_conforming (he : e.meter = some m) (hc : s.conforms m = true) :
    s.policeAndAdmit i e h p = (s.tested m).admitEgress e.queue { header := h, payload := p, owner := some i } := by
  simp [State.policeAndAdmit, he, hc]

/-- R9, R35: a cell that does not conform charges nothing, and is marked or discarded. -/
theorem State.policeAndAdmit_exceeding (he : e.meter = some m) (hc : s.conforms m = false) :
    s.policeAndAdmit i e h p = match e.onExceed with
      | .mark => (s.countStream i .marked).admitEgress e.queue { header := { h with de := true }, payload := p, owner := some i }
      | .discard => s.countStream i .discardedPolice := by
  have ht : s.tested m = s := by simp [State.tested, hc]
  simp only [State.policeAndAdmit, he, hc, ht]
  rfl

end

/-- Settles O13: by the meter, its credit, and its partner's. -/
theorem policedAdmission : Obligations.PolicedAdmission := by
  intro s i e h p cell refused paid
  refine ⟨State.policeAndAdmit_unmetered,
    fun m he => ⟨fun hm => ?_, fun hm hp => ?_, fun n hp => ⟨fun hn => ?_, fun hm hn => ?_⟩⟩⟩
  · exact State.policeAndAdmit_exceeding he (State.not_conforms_of_credit hm)
  · obtain ⟨hc, ht⟩ := State.tested_alone hp hm
    rw [State.policeAndAdmit_conforming he hc, ht]
    rfl
  · exact State.policeAndAdmit_exceeding he (State.not_conforms_of_partner hp hn)
  · obtain ⟨hc, ht⟩ := State.tested_partner hp hm hn
    rw [State.policeAndAdmit_conforming he hc, ht]
    rfl

end Sys2Proof.Machine
end

section
/-! PROOF. The STREAM commands, accepted (R19 to R24). -/

namespace Sys2Proof.Machine

/-! ### Lookup (R4) -/

/-- R2, R4: where labels are unique, the one live entry with a label is found. -/
theorem State.lookup_of_label {s : State} {i : Fin 256} {label : BitVec 12} (h3 : s.LawL3)
    (hlive : (s.streams.get i).state ≠ .free) (hl : (s.streams.get i).label = label) : s.lookup label = some i := by
  refine Table.find?_eq_some.2 ⟨by simp [hlive, hl], fun j hj => ?_⟩
  by_contra hfound
  obtain ⟨hjlive, hjl⟩ : (s.streams.get j).state ≠ .free ∧ (s.streams.get j).label = label := by simpa using hfound
  exact absurd (h3 j i hjlive hlive (hjl.trans hl.symm)) (Fin.ne_of_lt hj)

/-! ### What the own part of each command comes to -/

/-- R19: an INDEX below 256 names an entry. -/
theorem streamIndex_some {x : BitVec 16} {n : Fin 256} (h : x.toNat = n.val) : streamIndex x = some n := by
  simp [streamIndex, h]

theorem streamIndex_none {x : BitVec 16} (h : 255 < x.toNat) : streamIndex x = none := dif_neg (by omega)

/-- R20: one ill-coded field leaves no entry. -/
theorem StreamFields.entry_none {f : StreamFields}
    (h : f.action = none ∨ f.queue = none ∨ f.meter = none ∨ f.onExceed = none ∨ f.addAllowed = none ∨ f.addHop = none) :
    f.entry = none := by
  unfold StreamFields.entry
  split
  · simp_all
  · rfl

/-- R22: a field that is selected and ill-coded has no value. -/
theorem selected_none {α : Type} {arg : Byte} {k : Nat} {old : α} {new : Option α} (h : arg.getLsbD k ∧ new = none) :
    selected arg k old new = none := by
  rw [selected, if_pos h.1, h.2]

/-- R22: one ill-coded selected field leaves no entry. -/
theorem StreamEntry.changed_none {e : StreamEntry} {arg : Byte} {f : StreamFields}
    (h : (arg.getLsbD 0 ∧ f.action = none) ∨ (arg.getLsbD 1 ∧ f.queue = none) ∨ (arg.getLsbD 2 ∧ f.meter = none)
      ∨ (arg.getLsbD 3 ∧ f.onExceed = none) ∨ (arg.getLsbD 4 ∧ f.addAllowed = none)
      ∨ (arg.getLsbD 5 ∧ f.addHop = none)) :
    e.changed arg f = none := by
  unfold StreamEntry.changed
  split
  · next ha hq hm he hy hh =>
    rcases h with h | h | h | h | h | h
    · exact nomatch (selected_none h).symm.trans ha
    · exact nomatch (selected_none h).symm.trans hq
    · exact nomatch (selected_none h).symm.trans hm
    · exact nomatch (selected_none h).symm.trans he
    · exact nomatch (selected_none h).symm.trans hy
    · exact nomatch (selected_none h).symm.trans hh
  · rfl

section
variable {c : Control} {i : Fin 4} {s : State}

theorem ownStreamAdd_illCoded (h : (streamFields c).entry = none) :
    ownStreamAdd c i s = Done.same s { status := .badParam } := by simp [ownStreamAdd, h]

theorem ownStreamAdd_exists {e : StreamEntry} {n : Fin 256} (h : (streamFields c).entry = some e)
    (hn : s.lookup e.label = some n) :
    ownStreamAdd c i s = Done.same s { status := .exists_, index := indexField n } := by simp [ownStreamAdd, h, hn]

theorem ownStreamAdd_full {e : StreamEntry} (h : (streamFields c).entry = some e) (hl : s.lookup e.label = none)
    (hn : ∀ n, (s.streams.get n).state ≠ .free) : ownStreamAdd c i s = Done.same s { status := .full } := by
  have : s.streams.find? (fun x => x.state = .free) = none := Table.find?_eq_none.2 (by simpa using hn)
  simp [ownStreamAdd, h, hl, this]

theorem ownStreamAdd_added {e : StreamEntry} {n : Fin 256} (h : (streamFields c).entry = some e) (hl : s.lookup e.label = none)
    (hn : (s.streams.get n).state = .free) (hlow : ∀ m, m < n → (s.streams.get m).state ≠ .free) :
    ownStreamAdd c i s = { state := s.addStream n e, reply := { status := .ok, index := indexField n } } := by
  have : s.streams.find? (fun x => x.state = .free) = some n := Table.find?_eq_some.2 ⟨by simpa using hn, by simpa using hlow⟩
  simp [ownStreamAdd, h, hl, this]

theorem ownStreamSet_noEntry (h : streamIndex c.index = none) :
    ownStreamSet c i s = Done.same s { status := .badParam } := by simp [ownStreamSet, h]

theorem ownStreamRemove_noEntry (h : streamIndex c.index = none) :
    ownStreamRemove c i s = Done.same s { status := .badParam } := by simp [ownStreamRemove, h]

variable {n : Fin 256}

theorem ownStreamSet_free (h : streamIndex c.index = some n) (hn : (s.streams.get n).state = .free) :
    ownStreamSet c i s = Done.same s { status := .notFound } := by simp [ownStreamSet, h, hn]

theorem ownStreamRemove_free (h : streamIndex c.index = some n) (hn : (s.streams.get n).state = .free) :
    ownStreamRemove c i s = Done.same s { status := .notFound } := by simp [ownStreamRemove, h, hn]

theorem ownStreamSet_retiring (h : streamIndex c.index = some n) (hn : (s.streams.get n).state = .retiring) :
    ownStreamSet c i s = Done.same s { status := .busy } := by simp [ownStreamSet, h, hn]

theorem ownStreamRemove_retiring (h : streamIndex c.index = some n) (hn : (s.streams.get n).state = .retiring) :
    ownStreamRemove c i s = Done.same s { status := .busy } := by simp [ownStreamRemove, h, hn]

theorem ownStreamRemove_freed (h : streamIndex c.index = some n) (hn : (s.streams.get n).state = .active)
    (hq : (s.streams.get n).queued = 0) : ownStreamRemove c i s =
      { state := (s.setStream n .cleared).hand .streamRetired, reply := { status := .ok, arg := detailFreed } } := by
  simp [ownStreamRemove, h, hn, hq]

theorem ownStreamRemove_kept (h : streamIndex c.index = some n) (hn : (s.streams.get n).state = .active)
    (hq : 0 < (s.streams.get n).queued) : ownStreamRemove c i s =
      { state := s.setStream n { s.streams.get n with state := .retiring, purge := c.arg.getLsbD 0 }
        reply := { status := .ok, arg := detailRetiring } } := by
  simp [ownStreamRemove, h, hn, Nat.ne_of_gt hq]

theorem ownStreamSet_illCoded (h : streamIndex c.index = some n) (hn : (s.streams.get n).state = .active)
    (hx : (s.streams.get n).changed c.arg (streamFields c) = none) :
    ownStreamSet c i s = Done.same s { status := .badParam } := by simp [ownStreamSet, h, hn, hx]

theorem ownStreamSet_moved {x : StreamEntry} (h : streamIndex c.index = some n) (hn : (s.streams.get n).state = .active)
    (hx : (s.streams.get n).changed c.arg (streamFields c) = some x)
    (hq : x.queue ≠ (s.streams.get n).queue ∧ 0 < (s.streams.get n).queued) :
    ownStreamSet c i s = Done.same s { status := .busy } := by simp [ownStreamSet, h, hn, hx, hq]

theorem ownStreamSet_set {x : StreamEntry} (h : streamIndex c.index = some n) (hn : (s.streams.get n).state = .active)
    (hx : (s.streams.get n).changed c.arg (streamFields c) = some x)
    (hq : ¬ (x.queue ≠ (s.streams.get n).queue ∧ 0 < (s.streams.get n).queued)) :
    ownStreamSet c i s = { state := s.setStream n x, reply := { status := .ok } } := by
  simp only [ownStreamSet, h, hn, hx, if_neg hq]

theorem ownStreamRead_noEntry (h : streamIndex c.index = none) :
    ownStreamRead c i s = Done.same s { status := .badParam } := by simp [ownStreamRead, h]

theorem ownStreamRead_entry (h : streamIndex c.index = some n) :
    ownStreamRead c i s = Done.same s { status := .ok, data := streamRecord (s.streams.get n) } := by simp [ownStreamRead, h]

theorem ownStreamFind_tooBig (h : 4095 < c.index.toNat) :
    ownStreamFind c i s = Done.same s { status := .badParam } := by simp [ownStreamFind, h]

theorem ownStreamFind_absent (h : c.index.toNat ≤ 4095) (hl : s.lookup (c.index.setWidth 12) = none) :
    ownStreamFind c i s = Done.same s { status := .notFound } := by simp [ownStreamFind, Nat.not_lt.2 h, hl]

theorem ownStreamFind_found (h : c.index.toNat ≤ 4095) (hl : s.lookup (c.index.setWidth 12) = some n) :
    ownStreamFind c i s = Done.same s
      { status := .ok
        index := indexField n
        data := dataWords (0#4 ++ c.index.setWidth 12 ++ entryStateCode (s.streams.get n).state ++ 0#8) 0 0 0 } := by
  simp [ownStreamFind, Nat.not_lt.2 h, hl]

end

/-! ### The accepted commands -/

/-- Settles O41: by the checks of R20 in their order. -/
theorem streamAdd : Obligations.StreamAdd := by
  intro s c rest i x hacc hop f refused
  obtain ⟨hacc, hclaim⟩ := hacc
  have same {r : Reply} (hown : ownStreamAdd c i (s.unflagged.begun c rest i x) = Done.same _ r) : refused r :=
    congrArg Host.Outcome.next (live_accepted_same hacc hop (fun _ => hclaim) hown)
  refine ⟨fun hbad => same (ownStreamAdd_illCoded (StreamFields.entry_none hbad)), ?_⟩
  intro action queue meter onExceed addAllowed addHop ha hq hm he hy hh
  have hentry : f.entry = some
      { label := f.label, state := .active, action := action, queue := queue, meter := meter, onExceed := onExceed
        addAllowed := addAllowed, addHop := addHop, purge := false, queued := 0 } := by
    simp [StreamFields.entry, ha, hq, hm, he, hy, hh]
  refine ⟨fun n h3 hlive hlabel => same (ownStreamAdd_exists hentry (State.lookup_of_label h3 hlive hlabel)),
    fun hnone => ⟨fun hfull => same (ownStreamAdd_full hentry (State.lookup_none.2 hnone) hfull), fun n hn hlow => ?_⟩⟩
  exact congrArg Host.Outcome.next (live_accepted hacc hop (fun _ => hclaim) rfl
    (ownStreamAdd_added hentry (State.lookup_none.2 hnone) hn hlow))

/-- Settles O42: by the state of the entry that INDEX names, and the checks of R21 and R22 in their order. -/
theorem streamSetAndRemove : Obligations.StreamSetAndRemove := by
  intro s c rest i x hacc f set remove answers
  obtain ⟨hacc, hclaim⟩ := hacc
  have setSame (hset : set) {r : Reply} (hown : ownStreamSet c i (s.unflagged.begun c rest i x) = Done.same _ r) :
      answers .streamSet s r := congrArg Host.Outcome.next (live_accepted_same hacc hset (fun _ => hclaim) hown)
  have removeSame (hremove : remove) {r : Reply} (hown : ownStreamRemove c i (s.unflagged.begun c rest i x) = Done.same _ r) :
      answers .streamRemove s r := congrArg Host.Outcome.next (live_accepted_same hacc hremove (fun _ => hclaim) hown)
  refine ⟨fun hbig => ?_, fun n hn => ?_⟩
  · have hi := streamIndex_none hbig
    exact ⟨fun h => setSame h (ownStreamSet_noEntry hi), fun h => removeSame h (ownStreamRemove_noEntry hi)⟩
  have hi := streamIndex_some hn
  refine ⟨fun hfree => ⟨fun h => setSame h (ownStreamSet_free hi hfree),
      fun h => removeSame h (ownStreamRemove_free hi hfree)⟩,
    fun hret => ⟨fun h => setSame h (ownStreamSet_retiring hi hret),
      fun h => removeSame h (ownStreamRemove_retiring hi hret)⟩,
    fun hact h hz => ?_, fun hact h hpos => ?_,
    fun hact h hbad => setSame h (ownStreamSet_illCoded hi hact (StreamEntry.changed_none hbad)), ?_⟩
  · refine congrArg Host.Outcome.next (live_accepted_handsOver hacc h (fun _ => hclaim) rfl ?_)
    exact ownStreamRemove_freed hi hact hz
  · exact congrArg Host.Outcome.next (live_accepted hacc h (fun _ => hclaim) rfl (ownStreamRemove_kept hi hact hpos))
  · intro action queue meter onExceed addAllowed addHop hact h ha hq hm he hy hh
    have hx : (s.streams.get n).changed c.arg f = some { s.streams.get n with
        action := action, queue := queue, meter := meter, onExceed := onExceed, addAllowed := addAllowed, addHop := addHop } := by
      simp only [StreamEntry.changed, selected, ha, hq, hm, he, hy, hh]
    refine ⟨fun hne hpos => setSame h (ownStreamSet_moved hi hact hx ⟨hne, hpos⟩), fun hor => ?_⟩
    refine congrArg Host.Outcome.next (live_accepted hacc h (fun _ => hclaim) rfl (ownStreamSet_set hi hact hx ?_))
    exact fun ⟨hne, hpos⟩ => hor.elim hne (Nat.ne_of_gt hpos)

/-- Settles O43: by the range of INDEX, and by what the lookup finds. -/
theorem streamReadAndFind : Obligations.StreamReadAndFind := by
  intro s c rest i x hacc answers
  have read (hop : Op.ofCode c.op = some .streamRead) {r : Reply}
      (hown : ownStreamRead c i (s.unflagged.begun c rest i x) = Done.same _ r) : answers .streamRead r :=
    congrArg Host.Outcome.next (live_accepted_same hacc hop nofun hown)
  have find (hop : Op.ofCode c.op = some .streamFind) {r : Reply}
      (hown : ownStreamFind c i (s.unflagged.begun c rest i x) = Done.same _ r) : answers .streamFind r :=
    congrArg Host.Outcome.next (live_accepted_same hacc hop nofun hown)
  have label_eq {l : BitVec 12} (hle : c.index.toNat ≤ 4095) : l = c.index.setWidth 12 ↔ l.toNat = c.index.toNat := by
    rw [← BitVec.toNat_inj, BitVec.toNat_setWidth, Nat.mod_eq_of_lt (by omega)]
  refine ⟨fun hop hbig => read hop (ownStreamRead_noEntry (streamIndex_none hbig)),
    fun n hop hn => read hop (ownStreamRead_entry (streamIndex_some hn)),
    fun hop hbig => find hop (ownStreamFind_tooBig hbig), fun hop hle hnone => find hop ?_,
    fun n hop h3 hlive hlabel => find hop ?_⟩
  · exact ownStreamFind_absent hle (State.lookup_none.2 fun j hj hl => hnone j hj ((label_eq hle).1 hl))
  · have hle : c.index.toNat ≤ 4095 := by
      rw [← hlabel]
      exact Nat.le_of_lt_succ (s.streams.get n).label.isLt
    rw [(label_eq hle).2 hlabel]
    exact ownStreamFind_found hle (State.lookup_of_label h3 hlive ((label_eq hle).2 hlabel))

end Sys2Proof.Machine
end

section
/-! PROOF. RESTART TRAFFIC (R147), and the consulting of a queue (R79). -/

namespace Sys2Proof.Machine

/-! ### RESTART TRAFFIC -/

theorem Table.any_cells {α : Type} {n : Nat} {t : Table α n} {p : α → Bool} :
    t.cells.any p = true ↔ ∃ i, p (t.get i) = true := by
  rw [Table.cells_eq_ofFn, List.any_eq_true]
  simp [List.mem_ofFn]

/-- R26, R93, R177: the flags that a RESTART TRAFFIC hands over. -/
def State.restartFlags (s : State) : List EventFlag :=
  (if s.cal.commitPending then [.calendarSwapped] else [])
    ++ (if ∃ i, (s.streams.get i).state = .retiring then [.streamRetired] else []) ++ [.restarted]

/-- R147: everything that a RESTART TRAFFIC does, as an event of its own. -/
theorem State.restartTraffic_eq {s : State} (h : s.handover.flags = []) :
    s.restartTraffic = { s with
      streams := s.streams.map StreamEntry.restarted
      bank := { s.bank with meters := s.bank.meters.map Meter.reloaded }
      pool := s.pool.flush
      cal := s.cal.restarted
      tx := { s.tx with bytePosition := 0, outgoing := none }
      port := s.port.restarted
      engine := { s.engine with restartPending := false, lastReset := .traffic }
      handover := { s.handover.dropCascades with flags := s.restartFlags } } := by
  have hany : (s.streams.cells.any fun e => e.state = .retiring) = decide (∃ i, (s.streams.get i).state = .retiring) := by
    rw [Bool.eq_iff_iff, Table.any_cells]
    simp
  simp only [State.restartTraffic, State.restartFlags, hany]
  by_cases hs : s.cal.commitPending = true <;> by_cases hr : ∃ i, (s.streams.get i).state = .retiring <;>
    simp [hs, hr, State.hand_eq, Handover.dropCascades, h]

/-- R93: the calendar after RESTART TRAFFIC, a commit pending or not. -/
theorem Calendar.restarted_eq (c : Calendar) :
    c.restarted = { c with
      active := if c.commitPending then c.active.other else c.active, position := 0, commitPending := false } := by
  cases hc : c.commitPending <;> simp [Calendar.restarted, Calendar.swap, hc]

/-- R84, R107: a reply that is completed is counted, and no more. -/
theorem State.finishTx_reply {s : State} {k : EgressCell} (h : k.producer = .reply) :
    s.finishTx (.control k) = ({ s with
      cal := { s.cal with inTx := none }, tx := { s.tx with bytePosition := 31 } } : State).countDevice .cellsSent := by
  simp [State.finishTx, h]

/-- R84, R147: a completion at which RESTART TRAFFIC takes effect, in one equation. -/
theorem exec_slotCompletion_traffic {s : State} {k : EgressCell} (straps : BitVec 6) (hheld : s.resetHeld = false)
    (hin : s.cal.inTx = some (.control k)) (hmark : k.mark = some .traffic) (hreply : k.producer = .reply) :
    exec (.slotCompletion straps) s = .next { s with
      streams := s.streams.map StreamEntry.restarted
      bank := { s.bank with meters := s.bank.meters.map Meter.reloaded }
      pool := s.pool.flush
      cal := ({ s.cal with inTx := none } : Calendar).restarted
      tx := { s.tx with bytePosition := 0, outgoing := none }
      port := s.port.restarted
      engine := { s.engine with restartPending := false, lastReset := .traffic }
      counters := (s.countDevice .cellsSent).counters
      handover := { s.handover.dropCascades with flags := s.handover.flags ++ s.restartFlags } } := by
  show Host.Outcome.next (live (State.completeSlot straps) s) = _
  have hin' : s.unflagged.cal.inTx = some (.control k) := hin
  rw [live_running hheld, oneEvent_eq_unflagged]
  simp only [State.completeSlot, hin', TxCell.mark, hmark, State.finishTx_reply hreply]
  rw [State.restartTraffic_eq rfl]
  rfl

/-- Settles O6: each block is read off the one equation of the completion. -/
theorem restartTrafficEffect : Obligations.RestartTrafficEffect := by
  intro s straps k hheld hin hmark hreply
  refine ⟨_, exec_slotCompletion_traffic straps hheld hin hmark hreply, Table.get_map _ _, Table.get_map _ _, rfl, rfl, rfl,
    Table.get_map _ _, Calendar.restarted_eq _, rfl, rfl, rfl, rfl, ?_, rfl, rfl, rfl, rfl, rfl, rfl, rfl, rfl, rfl, hheld, rfl⟩
  simp [State.restartFlags]

end Sys2Proof.Machine
end

section
/-! PROOF. Cells that arrive at the Stream Table: ring cells refused and offered (R4 to R13), and local cells (R14, R15, R116). -/

namespace Sys2Proof.Machine

/-! ### Lookup and sorting -/

theorem State.lookup_congr {s t : State} (h : t.streams = s.streams) (l : BitVec 12) : t.lookup l = s.lookup l := by
  rw [State.lookup, h, State.lookup]

/-- R12, R30, R100: a ring cell with header `h` is sorted; a MARK cell gives its source event. -/
def State.sorted (s : State) (h : Header) : State := if h.kind = .mark then s.markSource h.label else s

theorem State.sorted_frame (s : State) (h : Header) :
    (s.sorted h).streams = s.streams ∧ (s.sorted h).settings = s.settings
      ∧ (s.sorted h).handover.flags = s.handover.flags := by
  unfold State.sorted
  split <;> simp [State.markSource]

theorem State.sorted_unflagged (s : State) (h : Header) : s.unflagged.sorted h = (s.sorted h).unflagged := by
  unfold State.sorted
  split
  · exact State.handSource_unflagged s _ _
  · rfl

theorem State.sortCell_stream {s : State} {c : RawCell}
    (hk : (Header.ofWord c.header).kind = .data ∨ (Header.ofWord c.header).kind = .mark) :
    s.sortCell c = (s.sorted (Header.ofWord c.header)).lookupRing c := by
  rcases hk with hk | hk <;> simp [State.sortCell, State.sorted, hk]

/-- R99: the arriving cell is handed on and sorted, as one event. -/
theorem exec_ringCellArrival {s : State} {w : Word} (p : Payload) (hheld : s.resetHeld = false) (hw : s.rx.arriving = some w) :
    exec (.ringCellArrival p) s = .next (oneEvent (fun z => (z.handedOn p).sortCell { header := w, payload := p }) s) := by
  show Host.Outcome.next (live (State.handOn p) s) = _
  rw [live_running hheld]
  refine congrArg Host.Outcome.next (oneEvent_congr ?_)
  have hw' : s.unflagged.rx.arriving = some w := hw
  simp only [State.handOn, hw']
  rfl

/-- R100: a ring DATA or MARK cell goes to the lookup. -/
theorem exec_ringCellArrival_stream {s : State} {w : Word} (p : Payload) (hheld : s.resetHeld = false)
    (hw : s.rx.arriving = some w) (hk : (Header.ofWord w).kind = .data ∨ (Header.ofWord w).kind = .mark) :
    exec (.ringCellArrival p) s = .next (oneEvent (fun z =>
      ((z.handedOn p).sorted (Header.ofWord w)).lookupRing { header := w, payload := p }) s) := by
  rw [exec_ringCellArrival p hheld hw]
  exact congrArg Host.Outcome.next (oneEvent_congr (State.sortCell_stream hk))

section
variable {s : State} {w : Word} {p : Payload} {i : Fin 256}

theorem State.lookupRing_unknown (h : s.lookup (Header.ofWord w).label = none) :
    s.lookupRing { header := w, payload := p } = s.unknownLabel (Header.ofWord w) p := by simp only [State.lookupRing, h]

theorem State.lookupRing_retiring (h : s.lookup (Header.ofWord w).label = some i) (hr : (s.streams.get i).state = .retiring) :
    s.lookupRing { header := w, payload := p } =
      (s.countDevice .retiringDiscards).countOther (Header.ofWord w).kind (some i) := by
  simp only [State.lookupRing, h, if_pos hr]

theorem State.lookupRing_active (h : s.lookup (Header.ofWord w).label = some i) (ha : (s.streams.get i).state = .active) :
    s.lookupRing { header := w, payload := p } =
      (if (Header.ofWord w).kind = .data then s.countStream i .arrived else s).applyAction i (s.streams.get i)
        { header := w, payload := p } := by
  simp [State.lookupRing, h, ha]

end

/-- R100, R178: the codes from 4 up name no known kind. -/
theorem Kind.ofCode_unknown : ∀ code : BitVec 3, 4 ≤ code.toNat →
    Kind.ofCode code = .unknown4 ∨ Kind.ofCode code = .unknown5
      ∨ Kind.ofCode code = .unknown6 ∨ Kind.ofCode code = .unknown7 := by decide

theorem State.sortCell_unknown {s : State} {w : Word} {p : Payload} (h : 4 ≤ (w.extractLsb' 29 3).toNat) :
    s.sortCell { header := w, payload := p } = s.countDevice .unknownKind := by
  have hk := Kind.ofCode_unknown (w.extractLsb' 29 3) h
  rcases hk with hk | hk | hk | hk <;> simp [State.sortCell, Header.ofWord, hk]

/-! ### What a ring DATA or MARK cell comes to -/

section
variable {s : State} {h : Header} {p : Payload} {i : Fin 256} {e : StreamEntry} {c : RawCell}

theorem State.unknownLabel_discard (hp : s.settings.unknownPolicy = .discard) :
    s.unknownLabel h p = (s.countDevice .unknownLabel).hand .unknownLabel := by
  simp [State.unknownLabel, hp]

theorem State.unknownLabel_spent (hp : s.settings.unknownPolicy = .forward) (hhop : h.hop = 0) :
    s.unknownLabel h p = ((s.countDevice .unknownLabel).hand .unknownLabel).expireHop := by
  simp [State.unknownLabel, hp, hhop]

theorem State.unknownLabel_forward (hp : s.settings.unknownPolicy = .forward) (hhop : h.hop ≠ 0) :
    s.unknownLabel h p = ((s.countDevice .unknownLabel).hand .unknownLabel).admitEgress s.settings.unknownQueue
      { header := h, payload := p, owner := none } := by
  simp only [State.unknownLabel, State.hand_frame, State.countDevice_settings, hp, if_neg hhop]

theorem State.applyAction_discard (ha : e.action = .discard) :
    s.applyAction i e c = s.countOther (Header.ofWord c.header).kind (some i) := by simp only [State.applyAction, ha]

theorem State.applyAction_forward (ha : e.action = .forward) :
    s.applyAction i e c = s.forwardPart i e (Header.ofWord c.header) c.payload := by simp only [State.applyAction, ha]

theorem State.applyAction_drop (ha : e.action = .drop) : s.applyAction i e c = s.admitDrop i c := by
  simp only [State.applyAction, ha]

theorem State.applyAction_copy (ha : e.action = .copy) :
    s.applyAction i e c = (s.admitDrop i c).forwardPart i e (Header.ofWord c.header) c.payload := by
  simp only [State.applyAction, ha]

theorem State.forwardPart_spent (hhop : h.hop = 0) : s.forwardPart i e h p = s.expireHop.countOther h.kind (some i) := if_pos hhop

end

theorem State.countOther_some (s : State) (k : Kind) (i : Fin 256) :
    s.countOther k (some i) = if k = .data then s.countStream i .discardedOther else s := rfl

/-- R99, R162: a ring DATA or MARK cell whose lookup comes to `t`, and hands the flags `fs` over. -/
theorem exec_ringCellArrival_of_lookup {s t : State} {w : Word} {p : Payload} {fs : List EventFlag} (hheld : s.resetHeld = false)
    (hw : s.rx.arriving = some w) (hk : (Header.ofWord w).kind = .data ∨ (Header.ofWord w).kind = .mark)
    (h : ((s.handedOn p).sorted (Header.ofWord w)).unflagged.lookupRing { header := w, payload := p } = t.unflagged.handsOver fs)
    (ht : t.handover.flags = s.handover.flags) : exec (.ringCellArrival p) s = .next (t.handsOver fs) := by
  rw [exec_ringCellArrival_stream p hheld hw hk]
  refine congrArg Host.Outcome.next (oneEvent_handsOver ?_ ht)
  rw [← h, ← State.sorted_unflagged]
  rfl

/-- Settles O14: by the kind, by what the lookup finds, and by the entry's state and action. -/
theorem ringCellDiscarded : Obligations.RingCellDiscarded := by
  intro s w p hheld hw h r other arrived
  obtain ⟨hstreams, hsettings, hflags⟩ : r.streams = s.streams ∧ r.settings = s.settings
      ∧ r.handover.flags = s.handover.flags := (s.handedOn p).sorted_frame h
  have hlookup (l : BitVec 12) : r.unflagged.lookup l = s.lookup l := State.lookup_congr hstreams l
  have entry (i : Fin 256) : r.unflagged.streams.get i = s.streams.get i := by rw [← hstreams]; rfl
  have handsOver {t : State} {fs : List EventFlag} (hk : h.kind = .data ∨ h.kind = .mark)
      (he : r.unflagged.lookupRing { header := w, payload := p } = t.unflagged.handsOver fs) :=
    exec_ringCellArrival_of_lookup hheld hw hk he
  have silent {t : State} (hk : h.kind = .data ∨ h.kind = .mark)
      (he : r.unflagged.lookupRing { header := w, payload := p } = t.unflagged) (ht : t.handover.flags = s.handover.flags) :
      exec (.ringCellArrival p) s = .next t := by
    rw [← t.handsOver_nil]
    exact handsOver hk (he.trans (State.handsOver_nil _).symm) ht
  clear_value r
  refine ⟨fun hidle => ?_, fun hcode => ?_, fun hk hnone hpolicy => handsOver hk ?_ hflags,
    fun hk hnone hpolicy hhop => handsOver hk ?_ hflags, fun i hk h3 hlabel => ⟨fun hret => silent hk ?_ ?_,
      fun hact haction => silent hk ?_ ?_, fun hact haction hhop => ?_⟩⟩
  · rw [exec_ringCellArrival p hheld hw]
    refine congrArg Host.Outcome.next (oneEvent_silent ?_ rfl)
    simp only [State.sortCell, show (Header.ofWord w).kind = .idle from hidle]
    rfl
  · rw [exec_ringCellArrival p hheld hw]
    refine congrArg Host.Outcome.next (oneEvent_silent ?_ rfl)
    rw [State.sortCell_unknown hcode]
    rfl
  · have hl := (hlookup h.label).trans (State.lookup_none.2 hnone)
    have hp : r.unflagged.settings.unknownPolicy = .discard := by rw [← hpolicy, ← hsettings]; rfl
    rw [State.lookupRing_unknown hl, State.unknownLabel_discard hp, State.unflagged_countDevice, State.hand_unflagged]
  · have hl := (hlookup h.label).trans (State.lookup_none.2 hnone)
    have hp : r.unflagged.settings.unknownPolicy = .forward := by rw [← hpolicy, ← hsettings]; rfl
    rw [State.lookupRing_unknown hl, State.unknownLabel_spent hp hhop, State.expireHop]
    simp [State.hand_handsOver]
  · have hl := (hlookup h.label).trans (State.lookup_of_label h3 (by simp [hret]) hlabel)
    rw [State.lookupRing_retiring hl (by rw [entry, hret]), State.countOther_some]
    rcases hk with hk | hk <;> simp [other, h, show (Header.ofWord w).kind = _ from hk]
  · rcases hk with hk | hk <;> simpa [other, hk] using hflags
  · have hl := (hlookup h.label).trans (State.lookup_of_label h3 (by simp [hact]) hlabel)
    rw [State.lookupRing_active hl (by rw [entry, hact]), entry, State.applyAction_discard haction, State.countOther_some]
    rcases hk with hk | hk <;> simp [other, arrived, h, show (Header.ofWord w).kind = _ from hk]
  · rcases hk with hk | hk <;> simpa [other, arrived, hk] using hflags
  · have hl := (hlookup h.label).trans (State.lookup_of_label h3 (by simp [hact]) hlabel)
    have he := State.lookupRing_active (p := p) hl (by rw [entry, hact])
    rw [entry, State.applyAction_forward haction, State.forwardPart_spent hhop, State.countOther_some, State.expireHop] at he
    rcases hk with hk | hk <;> simp only [other, arrived, h, show (Header.ofWord w).kind = _ from hk] at he ⊢
    · exact handsOver (.inl hk) (by simpa using he) (by simpa using hflags)
    · exact handsOver (.inr hk) (by simpa using he) (by simpa using hflags)

/-- Settles O15: each clause is the lookup's own branch, run as one event. -/
theorem ringCellOffered : Obligations.RingCellOffered := by
  intro s w p hheld hw hk h c r arrived other forwarded
  have sorted (z : State) : r z = (z.handedOn p).sorted h := rfl
  obtain ⟨hstreams, hsettings, -⟩ := (s.unflagged.handedOn p).sorted_frame h
  rw [← sorted] at hstreams hsettings
  have hlookup (l : BitVec 12) : (r s.unflagged).lookup l = s.lookup l := State.lookup_congr hstreams l
  have entry (i : Fin 256) : (r s.unflagged).streams.get i = s.streams.get i := by rw [hstreams]; rfl
  have run {f : State → State} (hf : (r s.unflagged).lookupRing c = f s.unflagged) :
      exec (.ringCellArrival p) s = .next (oneEvent f s) := by
    rw [exec_ringCellArrival_stream p hheld hw hk]
    exact congrArg Host.Outcome.next (oneEvent_congr hf)
  refine ⟨fun hnone hpolicy hhop => run ?_, fun i h3 hlabel hact => ?_⟩
  · have hl := (hlookup h.label).trans (State.lookup_none.2 hnone)
    have hp : (r s.unflagged).settings.unknownPolicy = .forward := by rw [hsettings]; exact hpolicy
    rw [State.lookupRing_unknown hl, State.unknownLabel_forward hp hhop, hsettings]
    rfl
  · have hl := (hlookup h.label).trans (State.lookup_of_label h3 (by simp [hact]) hlabel)
    have he := State.lookupRing_active (p := p) hl (by rw [entry, hact])
    rw [entry] at he
    exact ⟨fun haction => run (he.trans (State.applyAction_forward haction)),
      fun haction => run (he.trans (State.applyAction_drop haction)),
      fun haction => run (he.trans (State.applyAction_copy haction))⟩

/-! ### A completed local cell (R14, R15, R116) -/

/-- R116: the oldest completed cell leaves staging and arrives, as one event. -/
theorem exec_localCellArrival {s : State} {c : RawCell} {rest : List RawCell} (hheld : s.resetHeld = false)
    (hc : s.port.completed = c :: rest) :
    exec .localCellArrival s = .next (oneEvent (fun z =>
      ({ z with port := { z.port with completed := rest } } : State).arriveLocal c) s) := by
  show Host.Outcome.next (live State.localArrival s) = _
  rw [live_running hheld]
  refine congrArg Host.Outcome.next (oneEvent_congr ?_)
  have hc' : s.unflagged.port.completed = c :: rest := hc
  simp only [State.localArrival, hc']

section
variable {s : State} {c : RawCell} {i : Fin 256}

theorem State.arriveLocal_foreign (hk : (Header.ofWord c.header).kind ≠ .data) : s.arriveLocal c = s.refuseAdd := by
  simp only [State.arriveLocal, if_pos hk]

theorem State.arriveLocal_unknown (hk : (Header.ofWord c.header).kind = .data)
    (hl : s.lookup (Header.ofWord c.header).label = none) : s.arriveLocal c = s.refuseAdd := by
  simp [State.arriveLocal, hk, hl]

theorem State.arriveLocal_retiring (hk : (Header.ofWord c.header).kind = .data)
    (hl : s.lookup (Header.ofWord c.header).label = some i) (hr : (s.streams.get i).state = .retiring) :
    s.arriveLocal c = s.refuseAdd.countStream i .discardedOther := by
  simp [State.arriveLocal, hk, hl, hr]

theorem State.arriveLocal_notAllowed (hk : (Header.ofWord c.header).kind = .data)
    (hl : s.lookup (Header.ofWord c.header).label = some i) (ha : (s.streams.get i).state = .active)
    (hadd : (s.streams.get i).addAllowed = false) :
    s.arriveLocal c = ((s.countStream i .arrived).refuseAdd).countStream i .discardedOther := by
  simp [State.arriveLocal, hk, hl, ha, hadd]

theorem State.arriveLocal_accepted (hk : (Header.ofWord c.header).kind = .data)
    (hl : s.lookup (Header.ofWord c.header).label = some i) (ha : (s.streams.get i).state = .active)
    (hadd : (s.streams.get i).addAllowed = true) :
    s.arriveLocal c = (s.countStream i .arrived).policeAndAdmit i (s.streams.get i)
      { Header.ofWord c.header with hop := (s.streams.get i).addHop } c.payload := by
  simp [State.arriveLocal, hk, hl, ha, hadd]

end

theorem State.refuseAdd_unflagged (s : State) :
    s.unflagged.refuseAdd = (s.countDevice .addRefused).unflagged.handsOver [.addRefused] := by
  simp [State.refuseAdd]

/-- Settles O19: by the kind, by what the lookup finds, and by the entry's state and its add-allowed. -/
theorem localCellArrival : Obligations.LocalCellArrival := by
  intro s c rest hheld hc h left refused
  have run {t : State} {fs : List EventFlag} (he : (left s).unflagged.arriveLocal c = t.unflagged.handsOver fs)
      (ht : t.handover.flags = s.handover.flags) : exec .localCellArrival s = .next (t.handsOver fs) := by
    rw [exec_localCellArrival hheld hc]
    exact congrArg Host.Outcome.next (oneEvent_handsOver he ht)
  have hlookup (l : BitVec 12) : (left s).unflagged.lookup l = s.lookup l := rfl
  refine ⟨fun hk => run ?_ rfl, fun hk hnone => run ?_ rfl,
    fun i hk h3 hlabel => ⟨fun hret => ?_, fun hact hadd => ?_, fun hact hadd => ?_⟩⟩
  · rw [State.arriveLocal_foreign hk, State.refuseAdd_unflagged]
  · rw [State.arriveLocal_unknown hk ((hlookup h.label).trans (State.lookup_none.2 hnone)), State.refuseAdd_unflagged]
  · have hl := (hlookup h.label).trans (State.lookup_of_label h3 (by simp [hret]) hlabel)
    refine run (t := ((left s).countDevice .addRefused).countStream i .discardedOther) ?_ rfl
    rw [State.arriveLocal_retiring hk hl hret, State.refuseAdd_unflagged]
    rfl
  · have hl := (hlookup h.label).trans (State.lookup_of_label h3 (by simp [hact]) hlabel)
    refine run (t := (((left s).countDevice .addRefused).countStream i .arrived).countStream i .discardedOther) ?_ rfl
    rw [State.arriveLocal_notAllowed hk hl hact hadd, State.unflagged_countStream, State.refuseAdd_unflagged]
    rfl
  · have hl := (hlookup h.label).trans (State.lookup_of_label h3 (by simp [hact]) hlabel)
    rw [exec_localCellArrival hheld hc]
    exact congrArg Host.Outcome.next (oneEvent_congr (State.arriveLocal_accepted hk hl hact hadd))

end Sys2Proof.Machine
end

section
/-! PROOF. Consulting a queue (R16, R18, R23, R53, R79). -/

namespace Sys2Proof.Machine

/-! ### The purge of one cell -/

theorem State.purges_eq_true {s : State} {c : QueuedCell} :
    s.purges c = true ↔ ∃ i, c.owner = some i ∧ (s.streams.get i).state = .retiring ∧ (s.streams.get i).purge = true := by
  unfold State.purges
  split
  · next i hi => simp [hi]
  · next hn => simp [hn]

/-- An entry that is RETIRING with purge yes after a departure was so before it. -/
theorem StreamEntry.retiring_of_departed {e : StreamEntry} (hr : e.departed.state = .retiring) :
    e.state = .retiring ∧ e.departed.purge = e.purge := by
  unfold StreamEntry.departed at hr ⊢
  split at hr
  · cases hr
  · next hlast => exact ⟨hr, by rw [if_neg hlast]⟩

section
variable (s : State) (q : Fin 8) (rest : List QueuedCell) {c : QueuedCell}

theorem State.purgeOne_pool (c : QueuedCell) : (s.purgeOne q c rest).pool =
    { s.pool with free := s.pool.free + 1, queues := s.pool.queues.set q { s.queue q with cells := rest } } := by
  simp [State.purgeOne]

theorem State.purgeOne_queue_self (c : QueuedCell) : (s.purgeOne q c rest).queue q = { s.queue q with cells := rest } := by
  rw [State.queue, State.purgeOne_pool]
  exact Table.get_set_self _ _ _

theorem State.purgeOne_queue_ne (c : QueuedCell) {p : Fin 8} (hp : p ≠ q) : (s.purgeOne q c rest).queue p = s.queue p := by
  rw [State.queue, State.purgeOne_pool]
  exact Table.get_set_ne _ _ hp.symm

theorem State.purgeOne_streams (i : Fin 256) : (s.purgeOne q c rest).streams.get i =
    if c.owner = some i then (s.streams.get i).departed else s.streams.get i := by
  cases ho : c.owner with
  | none => simp [State.purgeOne, ho, State.ownerDeparts]
  | some j =>
    have hs : (s.purgeOne q c rest).streams = s.streams.set j (s.streams.get j).departed := by
      simp [State.purgeOne, ho, State.ownerDeparts, State.departs_streams_eq]
    rw [hs, Table.get_set]
    by_cases hj : j = i
    · simp [hj]
    · simp [hj]

/-- R79: a purge makes no other cell one that is to be purged. -/
theorem State.purges_of_purgeOne {s : State} {q : Fin 8} {rest : List QueuedCell} {d : QueuedCell}
    (hd : (s.purgeOne q c rest).purges d = true) : s.purges d = true := by
  obtain ⟨i, hi, hr, hpurge⟩ := State.purges_eq_true.1 hd
  rw [State.purgeOne_streams] at hr hpurge
  refine State.purges_eq_true.2 ⟨i, hi, ?_⟩
  split at hr
  · next ho =>
    obtain ⟨hr, hsame⟩ := StreamEntry.retiring_of_departed hr
    exact ⟨hr, by rwa [if_pos ho, hsame] at hpurge⟩
  · next ho => exact ⟨hr, by rwa [if_neg ho] at hpurge⟩

theorem State.purgeOne_device (c : QueuedCell) :
    (s.purgeOne q c rest).counters.device = s.counters.device.modify 11 (· + 1) := by
  simp only [State.purgeOne, State.ownerDeparts_frame, State.countOther]
  split
  · split <;> rfl
  · rfl

theorem State.purgeOne_queueCounters (c : QueuedCell) : (s.purgeOne q c rest).counters.queues = s.counters.queues := by
  simp only [State.purgeOne, State.ownerDeparts_frame, State.countOther]
  split
  · split <;> rfl
  · rfl

theorem State.purgeOne_streamCounters (i : Fin 256) : (s.purgeOne q c rest).counters.streams.get i =
    if c.header.kind = .data ∧ c.owner = some i then (s.counters.streams.get i).raise .discardedOther
    else s.counters.streams.get i := by
  simp only [State.purgeOne, State.ownerDeparts_frame, State.countOther]
  split
  · next j hj =>
    by_cases hk : c.header.kind = .data
    · rw [if_pos hk, State.countStream_counters, Table.get_modify]
      by_cases hji : j = i
      · subst hji
        simp [hk, hj]
      · simp [hji, hk, hj]
    · simp [hk]
  · next hn => simp [hn]

/-- R18: STREAM_RETIRED is handed over where the departure frees the owner. -/
theorem State.purgeOne_handover {i : Fin 256} (ho : c.owner = some i) : (s.purgeOne q c rest).handover =
    if (s.streams.get i).state = .retiring ∧ (s.streams.get i).queued - 1 = 0 then (s.hand .streamRetired).handover
    else s.handover := by
  simp only [State.purgeOne, ho, State.ownerDeparts, State.departs, State.countOther_frame,
    State.countDevice_streams, State.returnBuffer_streams, State.setQueue_streams]
  split
  · simp [State.hand_eq]
  · simp

end

/-! ### Several departures of one entry's cells (R16, R18) -/

/-- A departure that leaves an entry a cell lowers its queued count by 1. -/
theorem StreamEntry.departed_queued {e : StreamEntry} (h : 1 < e.queued) : e.departed.queued = e.queued - 1 := by
  rw [StreamEntry.departed, if_neg (by omega)]

/-- Departures that leave an entry a cell only lower its queued count. -/
theorem StreamEntry.departed_iterate {e : StreamEntry} {k : Nat} (h : k = 0 ∨ k < e.queued) :
    StreamEntry.departed^[k] e = { e with queued := e.queued - k } := by
  induction k with
  | zero => rfl
  | succ k ih =>
    rw [Function.iterate_succ_apply', ih (by omega), StreamEntry.departed, if_neg (by simp only; omega)]
    simp only [Nat.sub_sub]

/-- The departure of a RETIRING entry's last cell frees it. -/
theorem StreamEntry.departed_iterate_last {e : StreamEntry} {k : Nat} (hr : e.state = .retiring)
    (hpos : 0 < k) (hk : e.queued = k) : StreamEntry.departed^[k] e = .cleared := by
  obtain ⟨k, rfl⟩ : ∃ n, k = n + 1 := ⟨k - 1, by omega⟩
  rw [Function.iterate_succ_apply', StreamEntry.departed_iterate (by omega), StreamEntry.departed,
    if_pos ⟨hr, by simp only; omega⟩]

/-! ### The purge of the cells at a head -/

/-- R16, R18, R23, R79: the cells `gone` have been purged, one after another, from the head of Q`q` in state `s`, and
`t` is left. -/
structure Purged (q : Fin 8) (gone : List QueuedCell) (s t : State) : Prop where
  cells     : (s.queue q).cells = gone ++ (t.queue q).cells
  doomed    : ∀ c ∈ gone, s.purges c = true
  queues    : ∀ p, p ≠ q → t.queue p = s.queue p
  free      : t.pool.free = s.pool.free + gone.length
  drop      : t.pool.drop = s.pool.drop
  discards  : t.counters.device.get 11 = s.counters.device.get 11 + BitVec.ofNat 32 gone.length
  device    : ∀ k, k ≠ 11 → t.counters.device.get k = s.counters.device.get k
  qcounters : t.counters.queues = s.counters.queues
  scounters : ∀ i, t.counters.streams.get i = { s.counters.streams.get i with
      discardedOther := (s.counters.streams.get i).discardedOther
        + BitVec.ofNat 32 (gone.countP fun c => decide (c.header.kind = .data ∧ c.owner = some i)) }
  entries   : ∀ i, t.streams.get i = StreamEntry.departed^[ownedIn i gone] (s.streams.get i)
  handover  : t.handover = s.handover ∨ t.handover = (s.hand .streamRetired).handover
  silent    : (∀ i, ownedIn i gone = 0 ∨ ownedIn i gone < (s.streams.get i).queued) → t.handover = s.handover
  handed    : (∃ i, 0 < ownedIn i gone ∧ (s.streams.get i).queued = ownedIn i gone) →
      t.handover = (s.hand .streamRetired).handover

theorem Purged.refl (q : Fin 8) (s : State) : Purged q [] s s where
  cells := rfl
  doomed := by simp
  queues _ _ := rfl
  free := rfl
  drop := rfl
  discards := by simp
  device _ _ := rfl
  qcounters := rfl
  scounters i := by simp
  entries _ := rfl
  handover := .inl rfl
  silent _ := rfl
  handed := by
    rintro ⟨i, hi, -⟩
    exact absurd hi (Nat.lt_irrefl 0)

/-- One more cell is purged before the others. -/
theorem Purged.cons {q : Fin 8} {c : QueuedCell} {rest gone : List QueuedCell} {s t : State} (hc : (s.queue q).cells = c :: rest)
    (hp : s.purges c = true) (h : Purged q gone (s.purgeOne q c rest) t) : Purged q (c :: gone) s t := by
  obtain ⟨j, hj, hretiring, -⟩ := State.purges_eq_true.1 hp
  have hentry := s.purgeOne_streams q rest (c := c)
  have hone := s.purgeOne_handover q rest hj
  have honce : (s.purgeOne q c rest).handover = s.handover
      ∨ (s.purgeOne q c rest).handover = (s.hand .streamRetired).handover := by
    rw [hone]
    split
    · exact .inr rfl
    · exact .inl rfl
  have hhand := State.hand_handover_congr honce
  have hcount (i : Fin 256) := ownedIn_cons i c gone
  refine
    { cells := ?cells, doomed := ?doomed, queues := fun p hne => ?queues, free := ?free, drop := ?drop, discards := ?discards
      device := fun k hk => ?device, qcounters := ?qcounters, scounters := fun i => ?scounters, entries := fun i => ?entries
      handover := ?handover, silent := fun hall => ?silent, handed := ?handed }
  case cells =>
    have := h.cells
    rw [State.purgeOne_queue_self] at this
    rw [hc, List.cons_append, ← this]
  case doomed =>
    intro d hd
    rcases List.mem_cons.1 hd with rfl | hd
    · exact hp
    · exact State.purges_of_purgeOne (h.doomed d hd)
  case queues => rw [h.queues p hne, State.purgeOne_queue_ne s q rest c hne]
  case free =>
    rw [h.free, State.purgeOne_pool, List.length_cons]
    simp only
    omega
  case drop => rw [h.drop, State.purgeOne_pool]
  case discards =>
    rw [h.discards, State.purgeOne_device, Table.get_modify_self, List.length_cons, BitVec.ofNat_add, BitVec.add_assoc,
      BitVec.add_comm (BitVec.ofNat 32 gone.length)]
    rfl
  case device => rw [h.device k hk, State.purgeOne_device, Table.get_modify, if_neg (Ne.symm hk)]
  case qcounters => rw [h.qcounters, State.purgeOne_queueCounters]
  case scounters =>
    rw [h.scounters, State.purgeOne_streamCounters, List.countP_cons]
    by_cases hi : c.header.kind = .data ∧ c.owner = some i
    · simp only [hi, StreamCounters.raise]
      simp [BitVec.ofNat_add]
      ac_rfl
    · simp [hi]
  case entries =>
    rw [h.entries, hentry, hcount]
    split
    · rw [Function.iterate_succ_apply]
    · rfl
  case handover =>
    rcases h.handover with ht | ht
    · rwa [ht]
    · exact .inr (ht.trans hhand)
  case silent =>
    have hsame : (s.purgeOne q c rest).handover = s.handover := by
      rw [hone, if_neg]
      have := hall j
      rw [hcount, if_pos hj] at this
      omega
    rw [← hsame]
    refine h.silent fun i => ?_
    have := hall i
    rw [hcount] at this
    rw [hentry]
    split
    · next hi =>
      rw [if_pos hi] at this
      rw [StreamEntry.departed_queued (by omega)]
      omega
    · next hi => rwa [if_neg hi] at this
  case handed =>
    rintro ⟨i, hpos, hlast⟩
    rw [hcount] at hpos hlast
    by_cases hrest : 0 < ownedIn i gone
    · rw [← hhand]
      refine h.handed ⟨i, hrest, ?_⟩
      rw [hentry]
      split
      · next hi =>
        rw [if_pos hi] at hlast
        rw [StreamEntry.departed_queued (by omega)]
        omega
      · next hi => rwa [if_neg hi] at hlast
    · have hi : c.owner = some i := by
        by_contra hi
        rw [if_neg hi] at hpos
        omega
      obtain rfl : j = i := Option.some.inj (hj.symm.trans hi)
      rw [if_pos hi] at hlast
      have hfreed : (s.purgeOne q c rest).handover = (s.hand .streamRetired).handover := by
        rw [hone, if_pos ⟨hretiring, by omega⟩]
      rcases h.handover with ht | ht
      · rw [ht, hfreed]
      · rw [ht, hhand]

/-- R79: a consultation purges cells from the head on, and stops at the first cell that is not to be purged. -/
theorem purgeFrom_purged (q : Fin 8) (cs : List QueuedCell) (s : State) (hcs : (s.queue q).cells = cs) :
    ∃ gone, Purged q gone s (purgeFrom q cs s) ∧ (gone = [] → purgeFrom q cs s = s)
      ∧ ∀ c, ((purgeFrom q cs s).queue q).cells.head? = some c → (purgeFrom q cs s).purges c = false := by
  induction cs generalizing s with
  | nil => exact ⟨[], .refl q s, fun _ => rfl, fun c hc => by simp [purgeFrom, hcs] at hc⟩
  | cons c cs ih =>
    by_cases hp : s.purges c = true
    · rw [purgeFrom_purge q cs hp]
      obtain ⟨gone, hgone, -, hhead⟩ := ih (s.purgeOne q c cs) (by rw [State.purgeOne_queue_self])
      exact ⟨c :: gone, hgone.cons hcs hp, nofun, hhead⟩
    · have hp : s.purges c = false := by simpa using hp
      rw [purgeFrom_stop q cs hp]
      refine ⟨[], .refl q s, fun _ => rfl, fun d hd => ?_⟩
      rw [hcs] at hd
      cases hd
      exact hp

/-- Settles O24: every clause is read off `Purged`; what an entry's departures come to is `StreamEntry.departed_iterate`. -/
theorem purgeAtTheHead : Obligations.PurgeAtTheHead := by
  intro s q t doomed
  obtain ⟨gone, h, hnone, hhead⟩ := purgeFrom_purged q _ s rfl
  have hretiring (i : Fin 256) (hi : 0 < ownedIn i gone) : (s.streams.get i).state = .retiring := by
    obtain ⟨c, hc, ho⟩ := List.countP_pos_iff.1 hi
    obtain ⟨j, hj, hr, -⟩ := State.purges_eq_true.1 (h.doomed c hc)
    obtain rfl : j = i := Option.some.inj (hj.symm.trans (by simpa using ho))
    exact hr
  refine ⟨gone, h.cells, hnone, fun c hc => State.purges_eq_true.1 (h.doomed c hc), fun c hc hd => ?_, h.queues, h.free, h.drop,
    h.discards, h.device, h.qcounters, h.scounters, fun i hact => ?_, fun i hk => ?_, fun i hpos hk => ?_, h.handed, h.silent⟩
  · exact Bool.false_ne_true ((hhead c hc).symm.trans (State.purges_eq_true.2 hd))
  · have hz : ownedIn i gone = 0 := by
      by_contra hne
      have := hretiring i (Nat.pos_of_ne_zero hne)
      rw [hact] at this
      cases this
    have := h.entries i
    rwa [hz] at this
  · exact (h.entries i).trans (StreamEntry.departed_iterate hk)
  · exact (h.entries i).trans (StreamEntry.departed_iterate_last (hretiring i hpos) hpos hk)

end Sys2Proof.Machine
end

section
/-! PROOF. The Meter Bank: what its operations write, and the laws of its meters as one invariant. -/

namespace Sys2Proof.Machine

/-! ### Reading a meter after a write -/

theorem State.meter_setMeter (s : State) (m n : Fin 128) (x : Meter) :
    (s.setMeter m x).meter n = if n = m then x else s.meter n := by
  simp only [State.meter, State.setMeter_bank, Table.get_set, eq_comm]

/-- A meter is read from the bank's table alone. -/
theorem State.meter_congr {s t : State} (h : t.bank.meters = s.bank.meters) (m : Fin 128) : t.meter m = s.meter m := by
  rw [State.meter, h, State.meter]

/-- `s` with another table of meters. -/
def State.withMeters (s : State) (ms : Table Meter 128) : State := { s with bank := { s.bank with meters := ms } }

/-! ### Source events handed over (R28) -/

/-- R28: a source event is handed over where a meter listens to it. -/
theorem State.handSource_eq (s : State) (o : Origin) (p : Meter → Bool) :
    s.handSource o p = { s with handover := { s.handover with
      sources := s.handover.sources
        ++ if s.bank.meters.indices p = [] then [] else [{ origin := o, targets := s.bank.meters.indices p }] } } := by
  rcases s.handSource_cases o p with ⟨hnil, he⟩ | ⟨hne, he⟩ <;> rw [he]
  · simp [hnil]
  · rw [if_neg hne]

/-! ### The named counts (R38) -/

/-- R38: the meters that name a meter are counted meter by meter. -/
theorem State.namers_eq_countP (s : State) (m : Fin 128) :
    s.namers m = (List.finRange 128).countP fun n => decide ((s.meter n).partner = some m) := by
  rw [State.namers, Table.cells_eq_ofFn, List.ofFn_eq_map, List.countP_map]
  rfl

theorem State.namers_congr {s t : State} (h : ∀ n, (t.meter n).partner = (s.meter n).partner) (m : Fin 128) :
    t.namers m = s.namers m := by simp only [State.namers_eq_countP, h]

/-- R38: a meter that takes another partner no longer names the old one, and names the new one. -/
theorem State.namers_setMeter (s : State) (m n : Fin 128) (x : Meter) :
    (s.setMeter m x).namers n =
      s.namers n - (if (s.meter m).partner = some n then 1 else 0) + if x.partner = some n then 1 else 0 := by
  have hm : m.val < s.bank.meters.cells.length := by rw [s.bank.meters.size]; exact m.isLt
  have := List.countP_set (p := fun y : Meter => decide (y.partner = some n)) (a := x) hm
  simp only [decide_eq_true_eq] at this
  exact this

theorem State.meter_unname (s : State) (p : Option (Fin 128)) (n : Fin 128) :
    (s.unname p).meter n =
      if p = some n then { s.meter n with named := (s.meter n).named - 1 } else s.meter n := by
  cases p with
  | none => rfl
  | some m =>
    rw [State.unname, State.meter_setMeter]
    by_cases hn : n = m
    · simp [hn]
    · simp [hn, Ne.symm hn]

theorem State.meter_name (s : State) (p : Option (Fin 128)) (n : Fin 128) :
    (s.name p).meter n =
      if p = some n then { s.meter n with named := (s.meter n).named + 1 } else s.meter n := by
  cases p with
  | none => rfl
  | some m =>
    rw [State.name, State.meter_setMeter]
    by_cases hn : n = m
    · simp [hn]
    · simp [hn, Ne.symm hn]

/-- R38, R42: every meter after meter `m` takes the value `x`: the named counts of its old and its new partner follow. -/
theorem State.meter_writeMeter (s : State) (m n : Fin 128) (x : Meter) :
    (s.writeMeter m x).meter n =
      let z := if n = m then x else s.meter n
      if x.partner = (s.meter m).partner then z
      else if (s.meter m).partner = some n then { z with named := z.named - 1 }
      else if x.partner = some n then { z with named := z.named + 1 } else z := by
  simp only [State.writeMeter]
  split
  · rw [State.meter_setMeter]
  · next hne =>
    rw [State.meter_name, State.meter_unname, State.meter_setMeter]
    by_cases hold : (s.meter m).partner = some n
    · rw [if_pos hold, if_pos hold, if_neg (by rw [← hold]; exact hne)]
    · rw [if_neg hold, if_neg hold]

/-- R42: METER-SET writes the meters alone, and reads nothing else. -/
theorem State.writeMeter_eq {s u : State} (h : u.bank = s.bank) (m : Fin 128) (x : Meter) :
    u.writeMeter m x = u.withMeters (s.writeMeter m x).bank.meters := by
  have hm : u.meter m = s.meter m := State.meter_congr (by rw [h]) m
  simp only [State.writeMeter, hm]
  split
  · simp only [State.setMeter, State.withMeters, h]
  · cases (s.meter m).partner <;> cases x.partner <;>
      simp [State.unname, State.name, State.setMeter, State.withMeters, State.meter, h]

end Sys2Proof.Machine
end

section
/-! PROOF. Laws L5 and L6 with the ranges of R27 as one invariant, and the operations of the Meter Bank that keep it. -/

namespace Sys2Proof.Machine

/-- R38: a meter that some meter names is counted. -/
theorem State.namers_pos {s : State} {m p : Fin 128} (h : (s.meter m).partner = some p) : 0 < s.namers p := by
  rw [State.namers_eq_countP]
  exact List.countP_pos_iff.2 ⟨m, List.mem_finRange m, by simpa using h⟩

/-- R27: a meter's credit and period counter are within its bounds. -/
def Meter.Bounded (x : Meter) : Prop := x.credit ≤ x.limit ∧ 1 ≤ x.counter ∧ x.counter ≤ x.period

/-- Laws L5 and L6 with the ranges of R27: what `Obligations.MeterLawsKept` is about. -/
structure State.MeterLaws (s : State) : Prop where
  bounds : ∀ m, (s.meter m).Bounded
  links  : s.LawL6
  ranges : ∀ m, (s.meter m).InRange

/-- R27: meter `y` is meter `x`, but for its credit, its period counter and its run state. -/
def Meter.Moved (x y : Meter) : Prop := y = { x with credit := y.credit, counter := y.counter, running := y.running }

namespace State.MeterLaws

variable {s t : State}

/-- The laws read the table of meters alone. -/
theorem of_bank (h : s.MeterLaws) (hb : t.bank.meters = s.bank.meters) : t.MeterLaws := by
  have hm := State.meter_congr hb
  exact ⟨by simpa only [hm] using h.bounds,
    by simpa only [State.LawL6, hm, State.namers_congr (s := s) (t := t) fun n => by rw [hm]] using h.links,
    by simpa only [hm] using h.ranges⟩

/-- Where no meter's configuration changes, the laws ask for its bounds alone. -/
theorem of_moved (h : s.MeterLaws) (hm : ∀ m, (s.meter m).Moved (t.meter m)) (hb : ∀ m, (t.meter m).Bounded) :
    t.MeterLaws := by
  have hsource (m : Fin 128) : (t.meter m).source = (s.meter m).source := by rw [hm m]
  have hpartner (m : Fin 128) : (t.meter m).partner = (s.meter m).partner := by rw [hm m]
  have hnamed (m : Fin 128) : (t.meter m).named = (s.meter m).named := by rw [hm m]
  refine ⟨hb, ?_, fun m => ?_⟩
  · simpa only [State.LawL6, hsource, hpartner, hnamed, State.namers_congr hpartner] using h.links
  · rw [hm m]
    exact h.ranges m

/-- One meter's credit, period counter and run state change within its bounds. -/
theorem setMeter {m : Fin 128} {x : Meter} (h : s.MeterLaws) (hx : (s.meter m).Moved x) (hb : x.Bounded) :
    (s.setMeter m x).MeterLaws := by
  refine h.of_moved (fun n => ?_) fun n => ?_ <;> rw [State.meter_setMeter] <;> split
  · next hn => exact hn ▸ hx
  · rfl
  · exact hb
  · exact h.bounds n

/-- R35: a charge lowers a credit. -/
theorem charge (m : Fin 128) (h : s.MeterLaws) : (s.charge m).MeterLaws := by
  obtain ⟨hcredit, hcounter⟩ := h.bounds m
  exact h.setMeter rfl ⟨(Nat.sub_le _ _).trans hcredit, hcounter⟩

theorem tested (m : Fin 128) (h : s.MeterLaws) : (s.tested m).MeterLaws := by
  rcases s.tested_cases m with ⟨-, he⟩ | ⟨-, -, he⟩ | ⟨p, -, -, he⟩ <;> rw [he]
  · exact h
  · exact h.charge m
  · exact (h.charge m).charge p

/-- R32: an expiry refills the credit up to the limit, and restarts the counter at the period, which is not 0. -/
theorem expireMeter (m : Fin 128) (h : s.MeterLaws) : (s.expireMeter m).MeterLaws := by
  obtain ⟨-, -, hperiod, -⟩ := h.ranges m
  have hexpired : (s.setMeter m (s.meter m).expired).MeterLaws := h.setMeter rfl ⟨Nat.min_le_right _ _, hperiod, le_refl _⟩
  exact hexpired.of_bank (by simp [State.expireMeter])

/-- R28, R32, R33: a source event at a meter. -/
theorem sourceAt (o : Origin) (m : Fin 128) (h : s.MeterLaws) : (s.sourceAt o m).MeterLaws := by
  obtain ⟨hcredit, -, hperiod⟩ := h.bounds m
  simp only [State.sourceAt]
  split
  · split
    · next hcounter => exact h.setMeter rfl ⟨hcredit, Nat.le_sub_one_of_lt hcounter, (Nat.sub_le _ _).trans hperiod⟩
    · exact h.expireMeter m
  · exact h

/-- R47, R50: a reload fills the credit to the limit and the counter to the period. -/
theorem reloaded_bounded (m : Fin 128) (h : s.MeterLaws) : (s.meter m).reloaded.Bounded := by
  obtain ⟨-, -, hperiod, -⟩ := h.ranges m
  exact ⟨le_refl _, hperiod, le_refl _⟩

/-- R45, R46: the run state stands in no law. -/
theorem setRunning (running : Bool) (ms : List (Fin 128)) (h : s.MeterLaws) : (s.setRunning running ms).MeterLaws :=
  List.foldlRecOn ms _ h fun _ ht m _ => ht.setMeter rfl (ht.bounds m)

end State.MeterLaws

/-! ### METER-SET (R40 to R42) -/

/-- R40, R42: a meter with these configured fields, its live fields bounded against them. -/
def Meter.configured (x : Meter) (limit increment period : Nat) (source : Source) (partner : Option (Fin 128)) : Meter :=
  { x with
    limit := limit
    increment := increment
    period := period
    source := source
    partner := partner
    credit := min x.credit limit
    counter := min x.counter period }

/-- R40, R42: METER-SET's fields are well coded where each named one is, and the live fields are bounded against the new values. -/
theorem Meter.changed_eq_some {x y : Meter} {arg : Byte} {f : MeterFields} :
    x.changed arg f = some y ↔ ∃ limit increment period source partner,
      selected arg 0 x.limit f.limit = some limit ∧ selected arg 1 x.increment f.increment = some increment
        ∧ selected arg 2 x.period f.period = some period ∧ selected arg 3 x.source f.source = some source
        ∧ selected arg 4 x.partner f.partner = some partner
        ∧ y = x.configured limit increment period source partner := by
  constructor
  · intro h
    unfold Meter.changed at h
    split at h
    · next hl hi hp hs hn => exact ⟨_, _, _, _, _, hl, hi, hp, hs, hn, (Option.some.inj h).symm⟩
    · cases h
  · rintro ⟨limit, increment, period, source, partner, hl, hi, hp, hs, hn, rfl⟩
    simp only [Meter.changed, hl, hi, hp, hs, hn, Meter.configured]

/-- R41: check 3. -/
theorem cascadeOutOfOrder_iff {arg : Byte} {m : Fin 128} {source : Source} :
    cascadeOutOfOrder arg m source = true ↔ arg.getLsbD 3 = true ∧ ∃ n, source = .cascade n ∧ m ≤ n := by
  cases source <;> simp [cascadeOutOfOrder]

/-- R41: check 4. -/
theorem State.partnerRefused_iff {s : State} {arg : Byte} {m : Fin 128} {partner : Option (Fin 128)} :
    s.partnerRefused arg m partner = true ↔ arg.getLsbD 4 = true ∧ ∃ p, partner = some p
      ∧ (p = m ∨ (s.meter p).partner ≠ none ∨ 0 < (s.meter m).named) := by
  cases partner <;> simp [State.partnerRefused, Option.isSome_iff_ne_none, or_assoc]

/-- R40: a field that is not named keeps its value, and a named one takes the value carried. -/
theorem selected_some {α : Type} {arg : Byte} {k : Nat} {old x : α} {new : Option α} (h : selected arg k old new = some x) :
    (arg.getLsbD k = true ∧ new = some x) ∨ (arg.getLsbD k = false ∧ x = old) := by
  unfold selected at h
  split at h
  · next hk => exact .inl ⟨hk, h⟩
  · next hk => exact .inr ⟨by simpa using hk, (Option.some.inj h).symm⟩

/-- R27: a limit, increment or period that a command carries is in its range. -/
theorem decodeAmount_range {x : BitVec 16} {n : Nat} (h : decodeAmount x = some n) : 1 ≤ n ∧ n ≤ 65535 := by
  unfold decodeAmount at h
  split at h
  · cases h
  · next hx =>
    cases h
    have hne : x.toNat ≠ 0 := fun hz => hx (BitVec.eq_of_toNat_eq hz)
    have := x.isLt
    omega

/-- R27: so is one that METER-SET leaves as it was. -/
theorem selected_amount_range {arg : Byte} {k old n : Nat} {x : BitVec 16} (h : selected arg k old (decodeAmount x) = some n)
    (hold : 1 ≤ old ∧ old ≤ 65535) : 1 ≤ n ∧ n ≤ 65535 := by
  rcases selected_some h with ⟨-, hn⟩ | ⟨-, rfl⟩
  · exact decodeAmount_range hn
  · exact hold

/-- R38, R42: METER-SET writes meter `m` as `x`; the other meters keep all but their named counts. -/
theorem State.writeMeter_config (s : State) (m n : Fin 128) (x : Meter) :
    (s.writeMeter m x).meter n =
      { (if n = m then x else s.meter n) with named := ((s.writeMeter m x).meter n).named } := by
  rw [State.meter_writeMeter]
  simp only
  split
  · rfl
  · split
    · rfl
    · split <;> rfl

theorem State.writeMeter_named {s : State} {m n : Fin 128} {x : Meter} (hx : x.named = (s.meter m).named) :
    ((s.writeMeter m x).meter n).named =
      if x.partner = (s.meter m).partner then (s.meter n).named
      else if (s.meter m).partner = some n then (s.meter n).named - 1
      else if x.partner = some n then (s.meter n).named + 1 else (s.meter n).named := by
  have hz : (if n = m then x.named else (s.meter n).named) = (s.meter n).named := by
    split
    · next hn => rw [hx, hn]
    · rfl
  simp only [State.meter_writeMeter, apply_ite Meter.named, hz]

namespace State.MeterLaws

variable {s : State}

/-- R38, R41, R42: a meter takes another configuration. A partner that it newly names has no partner, and nothing names a meter that
takes one. -/
theorem writeMeter {m : Fin 128} {x : Meter} (h : s.MeterLaws) (hb : x.Bounded) (hr : x.InRange)
    (hsource : ∀ n, x.source = .cascade n → n < m) (hnamed : x.named = (s.meter m).named)
    (hpartner : ∀ p, x.partner = some p → x.partner = (s.meter m).partner
      ∨ (p ≠ m ∧ (s.meter p).partner = none ∧ (s.meter m).named = 0)) :
    (s.writeMeter m x).MeterLaws := by
  obtain ⟨hdown, hsingle, hcount⟩ := h.links
  have hconfig := s.writeMeter_config m (x := x)
  have hnames (n : Fin 128) : ((s.writeMeter m x).meter n).partner = if n = m then x.partner else (s.meter n).partner := by
    rw [hconfig n]
    split <;> rfl
  refine ⟨fun n => ?_, ⟨fun n k hk => ?_, fun n p hp => ?_, fun n => ?_⟩, fun n => ?_⟩
  · rw [hconfig n]
    split
    · exact hb
    · exact h.bounds n
  · rw [hconfig n] at hk
    split at hk
    · next hn => exact hn ▸ hsource k hk
    · exact hdown n k hk
  · rw [hnames] at hp ⊢
    split at hp
    · rcases hpartner p hp with hsame | ⟨hpm, hnone, -⟩
      · have hnone := hsingle m p (hsame ▸ hp)
        have hpm : p ≠ m := by
          rintro rfl
          rw [← hsame, hp] at hnone
          cases hnone
        rwa [if_neg hpm]
      · rwa [if_neg hpm]
    · have hnone := hsingle n p hp
      split
      · next hpm =>
        subst hpm
        cases hx : x.partner with
        | none => rfl
        | some q =>
          rcases hpartner q hx with hsame | ⟨-, -, hzero⟩
          · rw [← hsame, hx] at hnone
            cases hnone
          · have := hcount p
            have := State.namers_pos hp
            omega
      · exact hnone
  · have hnamers : (s.writeMeter m x).namers n = (s.setMeter m x).namers n :=
      State.namers_congr (fun k => by rw [hnames, State.meter_setMeter]; split <;> rfl) n
    rw [hnamers, State.namers_setMeter, State.writeMeter_named hnamed, hcount n]
    split
    · next hsame =>
      rw [hsame]
      split
      · next hold =>
        have := State.namers_pos hold
        omega
      · rfl
    · next hne =>
      split
      · next hold => rw [if_neg fun hx => hne (hx.trans hold.symm), Nat.add_zero]
      · split <;> rfl
  · rw [hconfig n]
    split
    · exact hr
    · exact h.ranges n

/-- R40 to R42: METER-SET, past its checks. -/
theorem meterSet {c : Control} {m : Fin 128} {x : Meter} (h : s.MeterLaws)
    (hx : (s.meter m).changed c.arg (meterFields c) = some x) (hup : ¬ cascadeOutOfOrder c.arg m x.source = true)
    (hfit : ¬ s.partnerRefused c.arg m x.partner = true) : (s.writeMeter m x).MeterLaws := by
  obtain ⟨hdown, -, -⟩ := h.links
  obtain ⟨hcredit, hcounter, hperiod⟩ := h.bounds m
  obtain ⟨hlr, hir, hpr⟩ := h.ranges m
  obtain ⟨limit, increment, period, source, partner, hl, hi, hp, hs, hn, rfl⟩ := Meter.changed_eq_some.1 hx
  rw [cascadeOutOfOrder_iff] at hup
  rw [State.partnerRefused_iff] at hfit
  have hlimit := selected_amount_range hl hlr
  have hincrement := selected_amount_range hi hir
  have hper := selected_amount_range hp hpr
  refine h.writeMeter ⟨Nat.min_le_right _ _, Nat.le_min.2 ⟨hcounter, hper.1⟩, Nat.min_le_right _ _⟩
    ⟨hlimit, hincrement, hper⟩ (fun n hsrc => ?_) rfl fun p hpart => ?_
  · rcases selected_some hs with ⟨harg, -⟩ | ⟨-, hold⟩
    · exact not_le.1 fun hle => hup ⟨harg, n, hsrc, hle⟩
    · exact hdown m n (hold ▸ hsrc)
  · rcases selected_some hn with ⟨harg, -⟩ | ⟨-, hold⟩
    · refine .inr ⟨fun hpm => hfit ⟨harg, p, hpart, .inl hpm⟩, ?_, ?_⟩
      · by_contra hsome
        exact hfit ⟨harg, p, hpart, .inr (.inl hsome)⟩
      · by_contra hpos
        exact hfit ⟨harg, p, hpart, .inr (.inr (Nat.pos_of_ne_zero hpos))⟩
    · exact .inl hold

end State.MeterLaws

end Sys2Proof.Machine
end

section
/-! PROOF. What the selection of a slot's cell leaves as it was (R77 to R81). -/

namespace Sys2Proof.Machine

/-- R77 to R81: a selection reaches the Stream Table, the egress queues, the control egress queue, the stream and device counters, and
the flags handed over, and nothing else. -/
def State.SelectsTo (s t : State) : Prop :=
  ∃ (streams : Table StreamEntry 256) (free : Nat) (queues : Table EgressQueue 8) (egress : List EgressCell)
    (scounters : Table StreamCounters 256) (device : Table Word 16) (flags : List EventFlag),
    t = { s with
      streams := streams
      pool := { s.pool with free := free, queues := queues }
      engine := { s.engine with egress := egress }
      counters := { s.counters with streams := scounters, device := device }
      handover := { s.handover with flags := flags } }

namespace State.SelectsTo

variable {s t u : State}

theorem refl (s : State) : s.SelectsTo s := ⟨_, _, _, _, _, _, _, rfl⟩

theorem trans (h : s.SelectsTo t) (h' : t.SelectsTo u) : s.SelectsTo u := by
  obtain ⟨_, _, _, _, _, _, _, rfl⟩ := h
  obtain ⟨_, _, _, _, _, _, _, rfl⟩ := h'
  exact ⟨_, _, _, _, _, _, _, rfl⟩

theorem bank (h : s.SelectsTo t) : t.bank = s.bank := by
  obtain ⟨_, _, _, _, _, _, _, rfl⟩ := h
  rfl

theorem ownerDeparts (s : State) (owner : Option (Fin 256)) : s.SelectsTo (s.ownerDeparts owner) := by
  cases owner with
  | none => exact refl s
  | some i =>
    simp only [State.ownerDeparts, State.departs, State.hand_eq]
    split <;> exact ⟨_, _, _, _, _, _, _, rfl⟩

theorem countOther (s : State) (kind : Kind) (owner : Option (Fin 256)) : s.SelectsTo (s.countOther kind owner) := by
  cases owner with
  | none => exact refl s
  | some i =>
    rw [State.countOther_some]
    split
    · exact ⟨_, _, _, _, _, _, _, rfl⟩
    · exact refl s

theorem purgeOne (s : State) (q : Fin 8) (c : QueuedCell) (rest : List QueuedCell) : s.SelectsTo (s.purgeOne q c rest) :=
  have hcounted : s.SelectsTo ((s.setQueue q { s.queue q with cells := rest }).returnBuffer.countDevice .retiringDiscards) :=
    ⟨_, _, _, _, _, _, _, rfl⟩
  (hcounted.trans (countOther _ _ _)).trans (ownerDeparts _ _)

theorem purgeFrom (q : Fin 8) (cs : List QueuedCell) (s : State) : s.SelectsTo (purgeFrom q cs s) := by
  induction cs generalizing s with
  | nil => exact refl s
  | cons c cs ih =>
    unfold Machine.purgeFrom
    split
    · exact (purgeOne s q c cs).trans (ih _)
    · exact refl s

theorem consult (s : State) (q : Fin 8) : s.SelectsTo (s.consult q) := purgeFrom q _ s

theorem takeHead (s : State) (q : Fin 8) : s.SelectsTo (s.takeHead q).2 := by
  rcases s.takeHead_cases q with ⟨-, he⟩ | ⟨c, rest, -, he⟩ <;> rw [he]
  · exact refl s
  · exact .trans ⟨_, _, _, _, _, _, _, rfl⟩ (ownerDeparts _ _)

/-- R80: the head of a queue is taken once the heads to be purged are gone. -/
theorem consultTake (s : State) (q : Fin 8) : s.SelectsTo ((s.consult q).takeHead q).2 := (consult s q).trans (takeHead _ q)

theorem takeControl (s : State) : s.SelectsTo s.takeControl.2 := by
  rcases s.takeControl_cases with ⟨-, he⟩ | ⟨c, rest, -, he⟩ <;> rw [he]
  · exact refl s
  · exact ⟨_, _, _, _, _, _, _, rfl⟩

theorem fillFrom (qs : List (Fin 8)) (s : State) : s.SelectsTo (fillFrom qs s).2 := by
  induction qs generalizing s with
  | nil => exact refl s
  | cons q qs ih =>
    unfold Machine.fillFrom
    have ht := consultTake s q
    split
    · split
      · next hr => rwa [hr] at ht
      · next hr =>
        rw [hr] at ht
        exact ht.trans (ih _)
    · exact ih s

theorem choose (s : State) (e : CalEntry) : s.SelectsTo (s.choose e).2 := by
  unfold State.choose
  have hctl := takeControl s
  split
  · exact consultTake s e.queue
  · split
    · next hr => rwa [hr] at hctl
    · next t hr =>
      rw [hr] at hctl
      have hhead := hctl.trans (consultTake t e.queue)
      split
      · next hr' => rwa [hr'] at hhead
      · next u hr' =>
        rw [hr'] at hhead
        exact hhead.trans (fillFrom fillOrder u)
  · split
    · next hr => rwa [hr] at hctl
    · next t hr =>
      rw [hr] at hctl
      exact hctl.trans (fillFrom fillOrder t)

end State.SelectsTo

end Sys2Proof.Machine
end

section
/-! PROOF. Every command and the step keep the laws of the Meter Bank. -/

namespace Sys2Proof.Machine

/-- An operation that keeps the laws of the Meter Bank. -/
def KeepsMeterLaws (f : State → State) : Prop := ∀ s : State, s.MeterLaws → (f s).MeterLaws

namespace KeepsMeterLaws

/-- An operation that does not touch the Meter Bank keeps its laws. -/
theorem of_bank {f : State → State} (hf : ∀ s, (f s).bank = s.bank) : KeepsMeterLaws f := fun s h => h.of_bank (by rw [hf])

/-- R183: nor does a rising edge of LCLK. -/
theorem edge_of_bank {f : State → State} (hf : ∀ s, (f s).bank = s.bank) : KeepsMeterLaws fun s => (f s).portEdge := of_bank hf

/-- R162: the laws do not read what is handed over, so an event may be run apart from it; a held part takes no event. -/
theorem live {f : State → State} (hf : KeepsMeterLaws f) : KeepsMeterLaws (live f) := fun s h => by
  cases hr : s.resetHeld with
  | true => rwa [live_held hr]
  | false =>
    rw [live_running hr, oneEvent_eq_unflagged]
    exact (hf s.unflagged (h.of_bank rfl)).of_bank rfl

end KeepsMeterLaws

/-! ### Cells that arrive: policing alone charges meters (R9, R35, R36) -/

namespace State.MeterLaws

variable {s : State}

theorem policeAndAdmit (i : Fin 256) (e : StreamEntry) (x : Header) (p : Payload) (h : s.MeterLaws) :
    (s.policeAndAdmit i e x p).MeterLaws := by
  simp only [State.policeAndAdmit]
  split
  · exact h.of_bank (by simp)
  · next m _ =>
    have ht := h.tested m
    split
    · exact ht.of_bank (by simp)
    · split <;> exact ht.of_bank (by simp)

theorem forwardPart (i : Fin 256) (e : StreamEntry) (x : Header) (p : Payload) (h : s.MeterLaws) :
    (s.forwardPart i e x p).MeterLaws := by
  unfold State.forwardPart
  split
  · exact h.of_bank (by simp)
  · split
    · exact h.policeAndAdmit i e x p
    · exact h.of_bank (by simp)

theorem applyAction (i : Fin 256) (e : StreamEntry) (c : RawCell) (h : s.MeterLaws) : (s.applyAction i e c).MeterLaws := by
  have hdrop : (s.admitDrop i c).MeterLaws := h.of_bank (by simp)
  simp only [State.applyAction]
  split
  · exact h.forwardPart i e _ _
  · exact hdrop
  · exact hdrop.forwardPart i e _ _
  · exact h.of_bank (by simp)

theorem lookupRing (c : RawCell) (h : s.MeterLaws) : (s.lookupRing c).MeterLaws := by
  simp only [State.lookupRing]
  split
  · exact h.of_bank (by simp)
  · next i _ =>
    split
    · exact h.of_bank (by simp)
    · split
      · exact (h.of_bank (t := s.countStream i .arrived) rfl).applyAction i _ c
      · exact h.applyAction i _ c

theorem sortCell (c : RawCell) (h : s.MeterLaws) : (s.sortCell c).MeterLaws := by
  simp only [State.sortCell]
  split
  case h_2 => exact h.lookupRing c
  case h_3 => exact (h.of_bank (t := s.markSource _) (by simp [State.markSource])).lookupRing c
  all_goals exact h.of_bank (by simp)

theorem arriveLocal (c : RawCell) (h : s.MeterLaws) : (s.arriveLocal c).MeterLaws := by
  simp only [State.arriveLocal]
  split
  · exact h.of_bank (by simp)
  · split
    · exact h.of_bank (by simp)
    · next i _ =>
      split
      · exact h.of_bank (by simp)
      · split
        · exact (h.of_bank (t := s.countStream i .arrived) rfl).policeAndAdmit i _ _ _
        · exact h.of_bank (by simp)

end State.MeterLaws

theorem handOn_keepsMeterLaws (p : Payload) : KeepsMeterLaws (State.handOn p) := fun s h => by
  unfold State.handOn
  split
  · exact h
  · exact State.MeterLaws.sortCell _ (h.of_bank rfl)

theorem localArrival_keepsMeterLaws : KeepsMeterLaws State.localArrival := fun s h => by
  unfold State.localArrival
  split
  · exact h
  · exact State.MeterLaws.arriveLocal _ (h.of_bank rfl)

/-! ### Source events (R28 to R33) -/

theorem takeSourceEvent_keepsMeterLaws (p : Origin → Bool) (m : Option (Fin 128)) : KeepsMeterLaws (State.takeSourceEvent p m) := by
  intro s h
  unfold State.takeSourceEvent
  split
  · exact h
  · exact List.foldlRecOn _ _ (h.of_bank rfl) fun _ ht m _ => ht.sourceAt _ m

theorem takeSourceOperand_keepsMeterLaws (p : Origin → Bool) (m : Option Nat) : KeepsMeterLaws (State.takeSourceOperand p m) := by
  intro s h
  unfold State.takeSourceOperand
  split
  · exact takeSourceEvent_keepsMeterLaws _ _ s h
  · split
    · exact h
    · exact takeSourceEvent_keepsMeterLaws _ _ s h

theorem takeExpiry_keepsMeterLaws (m : Nat) : KeepsMeterLaws (State.takeExpiry m) := by
  intro s h
  unfold State.takeExpiry
  split
  · exact h
  · simp only
    split
    · exact takeSourceEvent_keepsMeterLaws _ _ s h
    · exact h

/-! ### The slot and the resets (R25, R29, R48, R50) -/

theorem State.slotSource_bank (s : State) : s.slotSource.bank = { s.bank with slotDivider := s.bank.slotDivider + 1 } := by
  simp [State.slotSource]

theorem State.countSlot_bank (s : State) : s.countSlot.bank = s.bank := by
  simp only [State.countSlot]
  split <;> rfl

theorem State.advance_bank (s : State) : s.advance.bank = s.bank := by
  unfold State.advance
  split
  · rfl
  · split <;> simp

theorem slotEvent_keepsMeterLaws : KeepsMeterLaws State.slotEvent := fun s h => by
  unfold State.slotEvent
  split
  · exact h
  · refine h.of_bank ?_
    show (State.advance _).bank.meters = _
    rw [State.advance_bank, (State.SelectsTo.choose _ _).bank, State.countSlot_bank, State.slotSource_bank]

theorem State.finishTx_bank (s : State) (c : TxCell) : (s.finishTx c).bank = s.bank := by
  cases c with
  | pool c q => rfl
  | control k =>
    simp only [State.finishTx]
    split <;> rfl
  | idle => rfl

/-- R48: after a power-on every meter has its first values, which `reset_meterLaws` checks. -/
theorem State.MeterLaws.of_powerOn {t : State} (h : t.bank = .powerOn) : t.MeterLaws :=
  have hreset : State.reset.MeterLaws :=
    ⟨reset_meterLaws.1, reset_meterLaws.2, fun m => by simp [reset_meter, Meter.powerOn, Meter.InRange]⟩
  hreset.of_bank (by rw [h]; rfl)

theorem State.restartTraffic_bank (s : State) :
    s.restartTraffic.bank = { s.bank with meters := s.bank.meters.map Meter.reloaded } := by
  simp only [State.restartTraffic]
  split <;> split <;> simp

/-- R50: RESTART TRAFFIC reloads every meter. -/
theorem restartTraffic_keepsMeterLaws : KeepsMeterLaws State.restartTraffic := fun s h => by
  have hm (m : Fin 128) : s.restartTraffic.meter m = (s.meter m).reloaded := by
    rw [State.meter, State.restartTraffic_bank]
    exact Table.get_map _ _ _
  exact h.of_moved (fun m => by rw [hm]; rfl) fun m => by rw [hm]; exact h.reloaded_bounded m

theorem completeSlot_keepsMeterLaws (straps : BitVec 6) : KeepsMeterLaws (State.completeSlot straps) := fun s h => by
  unfold State.completeSlot
  split
  · exact h
  · next c _ =>
    have hfinished : (s.finishTx c).MeterLaws := h.of_bank (by rw [State.finishTx_bank])
    split
    · exact hfinished
    · exact restartTraffic_keepsMeterLaws _ hfinished
    · exact .of_powerOn rfl

/-! ### Events of the other blocks -/

theorem huntByte_bank (b : Byte) (s : State) : (State.huntByte b s).bank = s.bank := by
  unfold State.huntByte
  split <;> rfl

theorem testHeader_bank (w : Word) (s : State) : (State.testHeader w s).bank = s.bank := by
  unfold State.testHeader
  split
  · split
    · rfl
    · split
      · unfold State.presyncGood
        split <;> simp
      · rfl
    · split
      · rfl
      · unfold State.syncBad
        split <;> simp
  · rfl

theorem cutOpen_bank (s : State) : s.cutOpen.bank = s.bank := by
  unfold State.cutOpen
  split <;> simp [State.setOpen]

theorem addFirst_bank (w : Word) (s : State) : (State.addFirst w s).bank = s.bank := by
  simp only [State.addFirst]
  split <;> simp [State.setOpen, cutOpen_bank]

theorem addContinue_bank (w : Word) (s : State) : (State.addContinue w s).bank = s.bank := by
  simp only [State.addContinue]
  split
  · simp
  · split <;> simp [State.setOpen]
  · split <;> simp [State.setOpen]

theorem takeDrop_bank (s : State) : s.takeDrop.bank = s.bank := by
  simp only [State.takeDrop]
  split
  · rfl
  · split <;> rfl

theorem sessionTick_bank (s : State) : s.sessionTick.bank = s.bank := by
  unfold State.sessionTick State.expireSessions
  split
  · rfl
  · simp only [State.hand_frame]
    exact List.foldlRecOn (motive := fun t : State => t.bank = s.bank) _ _ rfl fun t ht i _ => by simpa using ht

theorem takeSessionTick_bank (s : State) : s.takeSessionTick.bank = s.bank := by
  unfold State.takeSessionTick
  split
  · rfl
  · exact sessionTick_bank s

theorem takeSessionExpiry_bank (s : State) : s.takeSessionExpiry.bank = s.bank := by
  unfold State.takeSessionExpiry
  split
  · rfl
  · split
    · rfl
    · exact sessionTick_bank s

theorem takeEventTick_bank (s : State) : s.takeEventTick.bank = s.bank := by
  unfold State.takeEventTick
  split <;> rfl

theorem takeTimeout_bank (s : State) : s.takeTimeout.bank = s.bank := by
  unfold State.takeTimeout
  split
  · rfl
  · split <;> rfl

theorem setFlag_bank (f : EventFlag) (s : State) : (s.setFlag f).bank = s.bank := by
  unfold State.setFlag
  split <;> rfl

theorem buildReport_bank (s : State) : s.buildReport.bank = s.bank := by
  unfold State.buildReport
  split
  · rfl
  · split <;> rfl

theorem issueReport_bank (s : State) : s.issueReport.bank = s.bank := by
  unfold State.issueReport
  split
  · rfl
  · split <;> rfl

theorem sendingComplete_bank (s : State) : s.sendingComplete.bank = s.bank := by
  unfold State.sendingComplete
  split <;> rfl

theorem releasePin_bank (straps : BitVec 6) (s : State) : (s.releasePin straps).bank = s.bank := by
  unfold State.releasePin
  split <;> rfl

/-! ### The execution of an intake command (R126, R128) -/

theorem State.cacheReply_bank (s : State) (i : Fin 4) (k : ControlCell) : (s.cacheReply i k).bank = s.bank := by
  unfold State.cacheReply
  split <;> rfl

theorem State.advanceSeq_bank (s : State) (i : Fin 4) (n : Byte) : (s.advanceSeq i n).bank = s.bank := by
  unfold State.advanceSeq
  split <;> rfl

theorem State.conclude_bank (s : State) (c : Control) (i : Fin 4) (d : Done) : (s.conclude c i d).bank = d.state.bank :=
  State.cacheReply_bank _ _ _

/-- R128, steps 4 to 8: a command reaches the Meter Bank by its own part alone. -/
theorem inSession_bank (claim : Control → Bool) (own : Control → Fin 4 → State → Done) (c : Control) (s : State) :
    (inSession claim own c s).bank = s.bank
      ∨ ∃ i t, t.bank = s.bank ∧ (inSession claim own c s).bank = (own c i t).state.bank := by
  unfold inSession
  split
  · exact .inl rfl
  · next i _ =>
    have hidle : (s.restartIdle i).bank = s.bank := by simp
    simp only
    split
    · exact .inl hidle
    · split
      · have hseq : ((s.restartIdle i).advanceSeq i c.seq).bank = s.bank := by rw [State.advanceSeq_bank, hidle]
        split
        · exact .inl ((State.conclude_bank _ _ _ _).trans hseq)
        · exact .inr ⟨i, _, hseq, State.conclude_bank _ _ _ _⟩
      · split <;> exact .inl hidle

/-- R126: so does its execution. -/
theorem KeepsMeterLaws.execution {op : Option Op} {body : Control → State → State} (hb : ∀ c, KeepsMeterLaws (body c)) :
    KeepsMeterLaws (execution op body) := fun s h => by
  rcases execution_cases op body s with he | ⟨k, rest, -, -, he | ⟨-, he⟩⟩
  · rwa [he]
  · rw [he]
    exact h.of_bank rfl
  · rw [he]
    exact hb _ _ (h.of_bank rfl)

/-- An intake command whose own part keeps the laws keeps them. -/
theorem intake_keepsMeterLaws {op : Option Op} {claim : Control → Bool} {own : Control → Fin 4 → State → Done}
    (ho : ∀ c i s, s.MeterLaws → (own c i s).state.MeterLaws) : KeepsMeterLaws (live (execution op (inSession claim own))) :=
  .live <| .execution fun c s h => by
    rcases inSession_bank claim own c s with hb | ⟨i, t, ht, hb⟩
    · exact h.of_bank (by rw [hb])
    · exact (ho c i t (h.of_bank (by rw [ht]))).of_bank (by rw [hb])

/-- The same for an intake command whose own part does not touch the Meter Bank. -/
theorem offBank_keepsMeterLaws {op : Option Op} {claim : Control → Bool} {own : Control → Fin 4 → State → Done}
    (ho : ∀ c i s, (own c i s).state.bank = s.bank) : KeepsMeterLaws (live (execution op (inSession claim own))) :=
  intake_keepsMeterLaws fun c i s h => h.of_bank (by rw [ho])

/-- The same for an intake command that changes nothing of its own. -/
theorem unchanged_keepsMeterLaws {op : Option Op} {claim : Control → Bool} {own : Control → Fin 4 → State → Done}
    (ho : ∀ c i s, (own c i s).state = s) : KeepsMeterLaws (live (execution op (inSession claim own))) :=
  offBank_keepsMeterLaws fun c i s => by rw [ho]

/-! ### The own parts of the intake commands -/

section
variable (c : Control) (i : Fin 4) (s : State)

theorem ownCalWrite_bank : (ownCalWrite c i s).state.bank = s.bank := by
  unfold ownCalWrite
  split
  · split
    · rfl
    · split <;> rfl
  · rfl

theorem ownCalLength_bank : (ownCalLength c i s).state.bank = s.bank := by
  unfold ownCalLength
  split_ifs <;> rfl

theorem ownCalCopy_bank : (ownCalCopy c i s).state.bank = s.bank := by
  unfold ownCalCopy
  split_ifs <;> rfl

theorem ownCalCommit_bank : (ownCalCommit c i s).state.bank = s.bank := by
  unfold ownCalCommit
  split_ifs <;> rfl

theorem ownCalCancel_bank : (ownCalCancel c i s).state.bank = s.bank := by
  unfold ownCalCancel
  split_ifs <;> rfl

theorem ownEventClear_bank : (ownEventClear c i s).state.bank = s.bank := by
  unfold ownEventClear
  split_ifs <;> rfl

theorem ownReportAck_bank : (ownReportAck c i s).state.bank = s.bank := by
  simp only [ownReportAck]
  split_ifs <;> rfl

theorem ownReportRearm_bank : (ownReportRearm c i s).state.bank = s.bank := by
  unfold ownReportRearm
  split_ifs <;> rfl

theorem ownQueueSet_bank : (ownQueueSet c i s).state.bank = s.bank := by
  unfold ownQueueSet
  split
  · rfl
  · split
    · rfl
    · split <;> rfl

theorem ownClose_bank : (ownClose c i s).state.bank = s.bank := by simp [ownClose]

theorem ownClaim_bank : (ownClaim c i s).state.bank = s.bank := by
  unfold ownClaim
  split
  · rfl
  · split <;> rfl

theorem ownRelease_bank : (ownRelease c i s).state.bank = s.bank := by
  unfold ownRelease
  split <;> rfl

theorem ownSet_bank : (ownSet c i s).state.bank = s.bank := by
  unfold ownSet
  split
  · rfl
  · split
    · rfl
    · split <;> rfl

theorem ownRestart_bank : (ownRestart c i s).state.bank = s.bank := by
  unfold ownRestart
  split <;> rfl

theorem ownStreamAdd_bank : (ownStreamAdd c i s).state.bank = s.bank := by
  unfold ownStreamAdd
  split
  · rfl
  · split
    · rfl
    · split <;> rfl

theorem ownStreamSet_bank : (ownStreamSet c i s).state.bank = s.bank := by
  unfold ownStreamSet
  split
  · rfl
  · simp only
    split
    · rfl
    · rfl
    · split
      · rfl
      · split <;> rfl

theorem ownStreamRemove_bank : (ownStreamRemove c i s).state.bank = s.bank := by
  unfold ownStreamRemove
  split
  · rfl
  · simp only
    split
    · rfl
    · rfl
    · split
      · simp
      · rfl

theorem ownSnapTake_bank : (ownSnapTake c i s).state.bank = s.bank := by
  unfold ownSnapTake
  split
  · rfl
  · split
    · rfl
    · split <;> rfl

theorem ownSnapRelease_bank : (ownSnapRelease c i s).state.bank = s.bank := by
  unfold ownSnapRelease
  split
  · rfl
  · split <;> rfl

variable {s}

theorem ownMeterSet_meterLaws (h : s.MeterLaws) : (ownMeterSet c i s).state.MeterLaws := by
  unfold ownMeterSet
  split
  · exact h
  · split
    · exact h
    · next hx =>
      split
      · exact h
      · next hup =>
        split
        · exact h
        · next hfit => exact h.meterSet hx hup hfit

theorem setRunState_meterLaws (running : Bool) (h : s.MeterLaws) : (setRunState running c s).state.MeterLaws := by
  unfold setRunState
  split
  · exact h
  · exact h.setRunning running _

theorem ownMeterReload_meterLaws (h : s.MeterLaws) : (ownMeterReload c i s).state.MeterLaws := by
  unfold ownMeterReload
  split
  · exact h
  · next m _ => exact h.setMeter rfl (h.reloaded_bounded m)

end

theorem bodyDiscover_bank (c : Control) (s : State) : (bodyDiscover c s).bank = s.bank := by
  simp only [bodyDiscover, State.sendReply]
  split <;> simp

theorem bodyOpen_bank (c : Control) (s : State) : (bodyOpen c s).bank = s.bank := by
  unfold bodyOpen
  split
  · split
    · rfl
    · split <;> simp [State.resend, State.sendReply, State.newSession]
  · split <;> rfl

/-! ### Every command, and the step -/

/-- R27, R38: every command keeps the laws of the Meter Bank. -/
theorem exec_keepsMeterLaws (c : Instr) (s : State) (h : s.MeterLaws) : ∃ t, exec c s = .next t ∧ t.MeterLaws :=
  match c with
  | .powerOn => ⟨_, rfl, .of_powerOn rfl⟩
  | .resetPinRelease straps => ⟨_, rfl, h.of_bank (by rw [releasePin_bank])⟩
  | .huntWindowTest b => ⟨_, rfl, (KeepsMeterLaws.of_bank (huntByte_bank b)).live s h⟩
  | .headerTest w => ⟨_, rfl, (KeepsMeterLaws.of_bank (testHeader_bank w)).live s h⟩
  | .ringCellArrival p => ⟨_, rfl, (handOn_keepsMeterLaws p).live s h⟩
  | .slotSourceEvent m => ⟨_, rfl, (takeSourceOperand_keepsMeterLaws _ m).live s h⟩
  | .markSourceEvent _ m => ⟨_, rfl, (takeSourceOperand_keepsMeterLaws _ m).live s h⟩
  | .cascadeSourceEvent _ m => ⟨_, rfl, (takeSourceOperand_keepsMeterLaws _ m).live s h⟩
  | .meterExpiry m => ⟨_, rfl, (takeExpiry_keepsMeterLaws m).live s h⟩
  | .addWordFirst w => ⟨_, rfl, (KeepsMeterLaws.edge_of_bank (addFirst_bank w)).live s h⟩
  | .addWordContinue w => ⟨_, rfl, (KeepsMeterLaws.edge_of_bank (addContinue_bank w)).live s h⟩
  | .localCellArrival => ⟨_, rfl, localArrival_keepsMeterLaws.live s h⟩
  | .dropTake => ⟨_, rfl, (KeepsMeterLaws.edge_of_bank takeDrop_bank).live s h⟩
  | .slotEvent => ⟨_, rfl, slotEvent_keepsMeterLaws.live s h⟩
  | .sessionTick => ⟨_, rfl, (KeepsMeterLaws.of_bank takeSessionTick_bank).live s h⟩
  | .sessionExpiry => ⟨_, rfl, (KeepsMeterLaws.of_bank takeSessionExpiry_bank).live s h⟩
  | .eventUnitTick => ⟨_, rfl, (KeepsMeterLaws.of_bank takeEventTick_bank).live s h⟩
  | .reportTimeout => ⟨_, rfl, (KeepsMeterLaws.of_bank takeTimeout_bank).live s h⟩
  | .slotCompletion straps => ⟨_, rfl, (completeSlot_keepsMeterLaws straps).live s h⟩
  | .reportSendingComplete => ⟨_, rfl, (KeepsMeterLaws.of_bank sendingComplete_bank).live s h⟩
  | .eventFlagSet f => ⟨_, rfl, by
      split
      · exact h
      · exact h.of_bank (by rw [setFlag_bank])⟩
  | .reportBuild => ⟨_, rfl, (KeepsMeterLaws.of_bank buildReport_bank).live s h⟩
  | .reportIssue => ⟨_, rfl, (KeepsMeterLaws.of_bank issueReport_bank).live s h⟩
  | .badOp => ⟨_, rfl, unchanged_keepsMeterLaws (fun _ _ _ => rfl) s h⟩
  | .discover => ⟨_, rfl, (KeepsMeterLaws.execution fun c => .of_bank (bodyDiscover_bank c)).live s h⟩
  | .openSession => ⟨_, rfl, (KeepsMeterLaws.execution fun c => .of_bank (bodyOpen_bank c)).live s h⟩
  | .closeSession => ⟨_, rfl, offBank_keepsMeterLaws ownClose_bank s h⟩
  | .ping => ⟨_, rfl, unchanged_keepsMeterLaws (fun _ _ _ => rfl) s h⟩
  | .claim => ⟨_, rfl, offBank_keepsMeterLaws ownClaim_bank s h⟩
  | .release => ⟨_, rfl, offBank_keepsMeterLaws ownRelease_bank s h⟩
  | .set => ⟨_, rfl, offBank_keepsMeterLaws ownSet_bank s h⟩
  | .get => ⟨_, rfl, unchanged_keepsMeterLaws ownGet_state s h⟩
  | .status => ⟨_, rfl, unchanged_keepsMeterLaws (fun _ _ _ => rfl) s h⟩
  | .restart => ⟨_, rfl, offBank_keepsMeterLaws ownRestart_bank s h⟩
  | .streamAdd => ⟨_, rfl, offBank_keepsMeterLaws ownStreamAdd_bank s h⟩
  | .streamSet => ⟨_, rfl, offBank_keepsMeterLaws ownStreamSet_bank s h⟩
  | .streamRemove => ⟨_, rfl, offBank_keepsMeterLaws ownStreamRemove_bank s h⟩
  | .streamRead => ⟨_, rfl, unchanged_keepsMeterLaws ownStreamRead_state s h⟩
  | .streamFind => ⟨_, rfl, unchanged_keepsMeterLaws ownStreamFind_state s h⟩
  | .meterSet => ⟨_, rfl, intake_keepsMeterLaws (fun c i _ hs => ownMeterSet_meterLaws c i hs) s h⟩
  | .meterRead => ⟨_, rfl, unchanged_keepsMeterLaws ownMeterRead_state s h⟩
  | .meterHold => ⟨_, rfl, intake_keepsMeterLaws (fun c _ _ hs => setRunState_meterLaws c false hs) s h⟩
  | .meterRun => ⟨_, rfl, intake_keepsMeterLaws (fun c _ _ hs => setRunState_meterLaws c true hs) s h⟩
  | .meterReload => ⟨_, rfl, intake_keepsMeterLaws (fun c i _ hs => ownMeterReload_meterLaws c i hs) s h⟩
  | .queueSet => ⟨_, rfl, offBank_keepsMeterLaws ownQueueSet_bank s h⟩
  | .queueRead => ⟨_, rfl, unchanged_keepsMeterLaws ownQueueRead_state s h⟩
  | .calWrite => ⟨_, rfl, offBank_keepsMeterLaws ownCalWrite_bank s h⟩
  | .calLength => ⟨_, rfl, offBank_keepsMeterLaws ownCalLength_bank s h⟩
  | .calCopy => ⟨_, rfl, offBank_keepsMeterLaws ownCalCopy_bank s h⟩
  | .calRead => ⟨_, rfl, unchanged_keepsMeterLaws ownCalRead_state s h⟩
  | .calCommit => ⟨_, rfl, offBank_keepsMeterLaws ownCalCommit_bank s h⟩
  | .calCancel => ⟨_, rfl, offBank_keepsMeterLaws ownCalCancel_bank s h⟩
  | .snapTake => ⟨_, rfl, offBank_keepsMeterLaws ownSnapTake_bank s h⟩
  | .snapRead => ⟨_, rfl, unchanged_keepsMeterLaws ownSnapRead_state s h⟩
  | .snapRelease => ⟨_, rfl, offBank_keepsMeterLaws ownSnapRelease_bank s h⟩
  | .eventRead => ⟨_, rfl, unchanged_keepsMeterLaws (fun _ _ _ => rfl) s h⟩
  | .eventClear => ⟨_, rfl, offBank_keepsMeterLaws ownEventClear_bank s h⟩
  | .reportAck => ⟨_, rfl, offBank_keepsMeterLaws ownReportAck_bank s h⟩
  | .reportRearm => ⟨_, rfl, offBank_keepsMeterLaws ownReportRearm_bank s h⟩

/-- A step keeps the laws of the Meter Bank: the command at the front of the queue does, and so does an edge of LCLK. -/
theorem step_keepsMeterLaws {s t : State} (h : s.MeterLaws) (hstep : step s = .next t) : t.MeterLaws := by
  unfold step at hstep
  split at hstep
  · cases hstep
    exact h.of_bank rfl
  · next c rest _ =>
    obtain ⟨u, hu, hlaws⟩ := exec_keepsMeterLaws c { s with pending := rest } (h.of_bank rfl)
    cases hu.symm.trans hstep
    exact hlaws

/-- Settles O58: the laws and the ranges together are the invariant `State.MeterLaws`. -/
theorem meterLawsKept : Obligations.MeterLawsKept := by
  intro s t bounds links ranges hstep
  obtain ⟨bounds, links, ranges⟩ := step_keepsMeterLaws ⟨bounds, links, ranges⟩ hstep
  exact ⟨bounds, links, ranges⟩

end Sys2Proof.Machine
end

section
/-! PROOF. Source events (R28 to R33): what one does at a meter, and which one is taken. -/

namespace Sys2Proof.Machine

/-! ### A source event at a meter -/

/-- R28: when a source event matches a source. -/
theorem Source.matches_iff {x : Source} {o : Origin} :
    x.matches o = true ↔ (∃ d v, x = .slots d ∧ o = .slot v ∧ v.toNat % d.toNat = 0)
      ∨ (∃ l, x = .mark l ∧ o = .mark l) ∨ (∃ n, x = .cascade n ∧ o = .cascade n) := by
  cases x <;> cases o <;> simp [Source.matches, eq_comm]

section
variable {s : State} {o : Origin} {m : Fin 128}

/-- R28, R33: a HELD meter, or one that the event does not match, is left as it is. -/
theorem State.sourceAt_idle (h : ¬ ((s.meter m).running = true ∧ (s.meter m).source.matches o = true)) : s.sourceAt o m = s := by
  simp only [State.sourceAt, if_neg h]

/-- R28: a RUNNING meter counts down. -/
theorem State.sourceAt_counts (hr : (s.meter m).running = true) (ho : (s.meter m).source.matches o = true)
    (hc : 1 < (s.meter m).counter) :
    s.sourceAt o m = s.setMeter m { s.meter m with counter := (s.meter m).counter - 1 } := by
  simp only [State.sourceAt, if_pos (And.intro hr ho), if_pos hc]

/-- R32: a RUNNING meter that has run down expires. -/
theorem State.sourceAt_expires (hr : (s.meter m).running = true) (ho : (s.meter m).source.matches o = true)
    (hc : (s.meter m).counter ≤ 1) : s.sourceAt o m = s.expireMeter m := by
  simp only [State.sourceAt, if_pos (And.intro hr ho), if_neg (Nat.not_lt.2 hc)]

end

/-- Settles O16: by the three branches of `State.sourceAt`; the cascade source event is `State.handSource_eq`. -/
theorem sourceEventAtAMeter : Obligations.SourceEventAtAMeter := by
  intro s o m x counts
  have hcounts : x.source.matches o = true ↔ counts := Source.matches_iff
  refine ⟨fun h => State.sourceAt_idle ?_, fun hr ho hc => State.sourceAt_counts hr (hcounts.2 ho) hc, fun hr ho hc => ?_⟩
  · rintro ⟨hr, ho⟩
    rcases h with h | h
    · exact Bool.false_ne_true (h.symm.trans hr)
    · exact h (hcounts.1 ho)
  · rw [State.sourceAt_expires hr (hcounts.2 ho) (Nat.le_of_eq hc), State.expireMeter, State.handSource_eq]
    rfl

/-! ### Which source event is taken -/

/-- R28: what stands on its way of a source event once meter `m` has taken it. -/
def SourceEvent.without (e : SourceEvent) (m : Fin 128) : List SourceEvent :=
  if e.targets.erase m = [] then [] else [{ e with targets := e.targets.erase m }]

section
variable {p : Origin → Bool} {e : SourceEvent} {before later : List SourceEvent} {m : Fin 128}

/-- R28: the oldest event of its origin is taken at every meter it has still to reach. -/
theorem takeSource_everywhere (he : p e.origin = true) (hb : ∀ x ∈ before, p x.origin = false) :
    takeSource p none (before ++ e :: later) = some (e.origin, e.targets, before ++ later) := by
  induction before with
  | nil => simp [takeSource, he]
  | cons x xs ih =>
    obtain ⟨hx, hxs⟩ := List.forall_mem_cons.1 hb
    simp [takeSource, hx, ih hxs]

/-- R28: the oldest event of its origin that is on its way to meter `m` is taken there. -/
theorem takeSource_atOne (he : p e.origin = true) (hm : m ∈ e.targets)
    (hb : ∀ x ∈ before, p x.origin = true → m ∉ x.targets) :
    takeSource p (some m) (before ++ e :: later) = some (e.origin, [m], before ++ e.without m ++ later) := by
  induction before with
  | nil =>
    cases ht : e.targets.erase m <;> simp [takeSource, he, hm, SourceEvent.without, ht]
  | cons x xs ih =>
    obtain ⟨hx, hxs⟩ := List.forall_mem_cons.1 hb
    cases hp : p x.origin with
    | false => simp [takeSource, hp, ih hxs]
    | true => simp [takeSource, hp, hx hp, ih hxs]

end

/-! ### Taking it, as one event -/

theorem State.expireMeter_unflagged (s : State) (m : Fin 128) : s.unflagged.expireMeter m = (s.expireMeter m).unflagged :=
  State.handSource_unflagged (s.setMeter m (s.meter m).expired) _ _

/-- A source event at a meter neither reads nor writes the flags handed over. -/
theorem State.sourceAt_unflagged (s : State) (o : Origin) (m : Fin 128) : s.unflagged.sourceAt o m = (s.sourceAt o m).unflagged := by
  have hm : s.unflagged.meter m = s.meter m := rfl
  simp only [State.sourceAt, hm, State.expireMeter_unflagged]
  split
  · split <;> rfl
  · rfl

theorem State.sourceAt_flags (s : State) (o : Origin) (m : Fin 128) : (s.sourceAt o m).handover.flags = s.handover.flags := by
  simp only [State.sourceAt]
  split
  · split
    · rfl
    · simp [State.expireMeter]
  · rfl

/-- R28: a source event is taken at one meter after another. -/
def State.sourceAll (s : State) (o : Origin) (ms : List (Fin 128)) : State := ms.foldl (fun t m => t.sourceAt o m) s

theorem State.sourceAll_unflagged (s : State) (o : Origin) (ms : List (Fin 128)) :
    s.unflagged.sourceAll o ms = (s.sourceAll o ms).unflagged := by
  induction ms generalizing s with
  | nil => rfl
  | cons m ms ih =>
    show (s.unflagged.sourceAt o m).sourceAll o ms = _
    rw [State.sourceAt_unflagged, ih]
    rfl

theorem State.sourceAll_flags (s : State) (o : Origin) (ms : List (Fin 128)) :
    (s.sourceAll o ms).handover.flags = s.handover.flags := by
  induction ms generalizing s with
  | nil => rfl
  | cons m ms ih => exact (ih _).trans (State.sourceAt_flags s o m)

/-- R28: the taking of a source event, as one event of a part that runs. -/
theorem live_takeSourceEvent {s : State} {p : Origin → Bool} {at_ : Option (Fin 128)} {o : Origin} {ms : List (Fin 128)}
    {sources : List SourceEvent} (hheld : s.resetHeld = false)
    (h : takeSource p at_ s.handover.sources = some (o, ms, sources)) :
    live (State.takeSourceEvent p at_) s =
      ({ s with handover := { s.handover with sources := sources } } : State).sourceAll o ms := by
  rw [live_running hheld]
  refine oneEvent_silent ?_ (State.sourceAll_flags _ o ms)
  rw [← State.sourceAll_unflagged]
  have h' : takeSource p at_ s.unflagged.handover.sources = some (o, ms, sources) := h
  simp only [State.takeSourceEvent, h']
  rfl

/-- R39: a meter operand below 128 names its meter. -/
theorem meterOperand_val (m : Fin 128) : meterOperand m.val = some m := dif_pos m.isLt

theorem takeSourceOperand_val (p : Origin → Bool) (m : Fin 128) :
    State.takeSourceOperand p (some m.val) = State.takeSourceEvent p (some m) := by
  funext s
  simp only [State.takeSourceOperand, meterOperand_val]

/-- R32: METER_EXPIRY takes the event that makes its meter expire. -/
theorem live_takeExpiry {s : State} {m : Fin 128} (hr : (s.meter m).running = true) (hc : (s.meter m).counter ≤ 1) :
    live (State.takeExpiry m.val) s = live (State.takeSourceEvent (s.meter m).source.matches (some m)) s := by
  have hrun (z : State) (hz : z.meter m = s.meter m) :
      State.takeExpiry m.val z = z.takeSourceEvent (s.meter m).source.matches (some m) := by
    simp only [State.takeExpiry, meterOperand_val, hz, if_pos (And.intro hr hc)]
  cases hheld : s.resetHeld with
  | true => rw [live_held hheld, live_held hheld]
  | false =>
    rw [live_running hheld, live_running hheld]
    exact oneEvent_congr (hrun _ rfl)

/-! ### The rows of the table -/

theorem Origin.isSlot_iff {o : Origin} : o.isSlot = true ↔ ∃ v, o = .slot v := by cases o <;> simp [Origin.isSlot]

theorem Origin.isMark_iff {o : Origin} {l : BitVec 12} : o.isMark l.toNat = true ↔ o = .mark l := by
  cases o <;> simp [Origin.isMark, BitVec.toNat_inj]

theorem Origin.isCascade_iff {o : Origin} {n : Fin 128} : o.isCascade n.val = true ↔ o = .cascade n := by
  cases o <;> simp [Origin.isCascade, Fin.val_inj]

/-- Settles O17: each row takes what `takeSource_everywhere` and `takeSource_atOne` say, for the origins its row accepts. -/
theorem sourceEventTaken : Obligations.SourceEventTaken := by
  intro s o ts before later hheld _ hsources rest everywhere atOne
  have all {p : Origin → Bool} (ho : p o = true) (hb : ∀ e ∈ before, ¬ p e.origin = true) :
      live (State.takeSourceOperand p none) s = everywhere := by
    have htake := takeSource_everywhere (e := { origin := o, targets := ts }) (later := later) ho
      fun e he => Bool.eq_false_iff.2 (hb e he)
    rw [← hsources] at htake
    refine (live_takeSourceEvent hheld htake).trans ?_
    simp only [everywhere, rest, List.append_nil, State.sourceAll]
  have one {p : Origin → Bool} {m : Fin 128} (ho : p o = true) (hm : m ∈ ts)
      (hb : ∀ e ∈ before, p e.origin = true → m ∉ e.targets) : live (State.takeSourceEvent p (some m)) s = atOne m := by
    have htake := takeSource_atOne (e := { origin := o, targets := ts }) (later := later) ho hm hb
    rw [← hsources] at htake
    exact live_takeSourceEvent hheld htake
  have oneOperand {p : Origin → Bool} {m : Fin 128} (ho : p o = true) (hm : m ∈ ts)
      (hb : ∀ e ∈ before, p e.origin = true → m ∉ e.targets) : live (State.takeSourceOperand p (some m.val)) s = atOne m := by
    rw [takeSourceOperand_val]
    exact one ho hm hb
  refine ⟨fun v hv => ⟨fun hb => ?_, fun m hm hb => ?_⟩, fun l hl => ⟨fun hb => ?_, fun m hm hb => ?_⟩,
    fun n hn => ⟨fun hb => ?_, fun m hm hb => ?_⟩, fun m hm hr hc hmatch hb => ?_⟩ <;> refine congrArg Host.Outcome.next ?_
  · exact all (Origin.isSlot_iff.2 ⟨v, hv⟩) fun e he hp => (Origin.isSlot_iff.1 hp).elim (hb e he)
  · exact oneOperand (Origin.isSlot_iff.2 ⟨v, hv⟩) hm fun e he hp => (Origin.isSlot_iff.1 hp).elim (hb e he)
  · exact all (Origin.isMark_iff.2 hl) fun e he hp => hb e he (Origin.isMark_iff.1 hp)
  · exact oneOperand (Origin.isMark_iff.2 hl) hm fun e he hp => hb e he (Origin.isMark_iff.1 hp)
  · exact all (Origin.isCascade_iff.2 hn) fun e he hp => hb e he (Origin.isCascade_iff.1 hp)
  · exact oneOperand (Origin.isCascade_iff.2 hn) hm fun e he hp => hb e he (Origin.isCascade_iff.1 hp)
  · exact (live_takeExpiry hr (Nat.le_of_eq hc)).trans (one hmatch hm hb)

end Sys2Proof.Machine
end

section
/-! PROOF. The METER commands, accepted (R39 to R47). -/

namespace Sys2Proof.Machine

/-! ### Meters named by INDEX and by DATA words -/

/-- R39: a number below 128 names a meter. -/
theorem meterIndex_eq_some {x : Nat} {m : Fin 128} : meterIndex x = some m ↔ x = m.val := by
  unfold meterIndex
  split
  · next h => simp [Fin.ext_iff]
  · next h =>
    have := m.isLt
    simp only [reduceCtorEq, false_iff]
    omega

theorem meterIndex_none {x : Nat} (h : 127 < x) : meterIndex x = none := dif_neg (by omega)

/-- Fields that are all well coded give the list of their values. -/
theorem allSome_eq_some {α : Type} {l : List (Option α)} {xs : List α} : allSome l = some xs ↔ l = xs.map some := by
  induction l generalizing xs with
  | nil => cases xs <;> simp [allSome]
  | cons a l ih =>
    cases a with
    | none => cases xs <;> simp [allSome]
    | some a => cases xs <;> simp [allSome, ih, and_comm]

/-- One ill-coded field leaves no list. -/
theorem allSome_eq_none {α : Type} {l : List (Option α)} : allSome l = none ↔ none ∈ l := by
  induction l with
  | nil => simp [allSome]
  | cons a l ih => cases a <;> simp [allSome, ih]

/-- R45: the meter indices that METER-HOLD and METER-RUN carry are in their ranges. -/
def ListsMeters (c : Control) : Prop :=
  1 ≤ c.count.toNat ∧ c.count.toNat ≤ 4 ∧ ∀ k, k < c.count.toNat → (c.word k).toNat ≤ 127

/-- R45: whether a DATA word within COUNT names the meter. -/
def listsMeter (c : Control) (m : Fin 128) : Bool := (List.range c.count.toNat).any fun k => (c.word k).toNat = m.val

theorem meterList_none {c : Control} (h : ¬ ListsMeters c) : meterList c = none := by
  unfold meterList
  split
  · next hcount =>
    simp only [inRange, Bool.and_eq_true, decide_eq_true_eq] at hcount
    simp only [ListsMeters, hcount.1, hcount.2, true_and, not_forall, not_le] at h
    obtain ⟨k, hk, hbig⟩ := h
    exact allSome_eq_none.2 (List.mem_map.2 ⟨k, List.mem_range.2 hk, meterIndex_none hbig⟩)
  · rfl

/-- R45: the list holds the meters that the words name. -/
theorem meterList_some {c : Control} (h : ListsMeters c) :
    ∃ ms, meterList c = some ms ∧ ∀ m, m ∈ ms ↔ listsMeter c m = true := by
  obtain ⟨hlow, hhigh, hwords⟩ := h
  have hcount : inRange 1 4 c.count.toNat = true := by simp [inRange, hlow, hhigh]
  cases hms : meterList c with
  | none =>
    rw [meterList, if_pos hcount, allSome_eq_none] at hms
    obtain ⟨k, hk, hbig⟩ := List.mem_map.1 hms
    have hle := hwords k (List.mem_range.1 hk)
    have := meterIndex_eq_some (x := (c.word k).toNat) (m := ⟨(c.word k).toNat, by omega⟩)
    rw [hbig] at this
    exact nomatch this.2 rfl
  | some ms =>
    rw [meterList, if_pos hcount, allSome_eq_some] at hms
    refine ⟨ms, rfl, fun m => ?_⟩
    have hmem : m ∈ ms ↔ some m ∈ ms.map some := by simp
    rw [hmem, ← hms]
    simp [listsMeter, meterIndex_eq_some]

/-! ### The run state of several meters (R45, R46) -/

section
variable {s u : State} (running : Bool) (ms : List (Fin 128))

theorem State.meter_setRunning (s : State) (m : Fin 128) :
    (s.setRunning running ms).meter m = if m ∈ ms then { s.meter m with running := running } else s.meter m := by
  induction ms generalizing s with
  | nil => rfl
  | cons n ms ih =>
    show ((s.setMeter n { s.meter n with running := running }).setRunning running ms).meter m = _
    rw [ih, State.meter_setMeter]
    by_cases hn : m = n
    · simp [hn]
    · simp [hn]

/-- R45: the run states are written to the meters alone, and nothing else is read. -/
theorem State.setRunning_eq (h : u.bank = s.bank) :
    u.setRunning running ms = u.withMeters (s.setRunning running ms).bank.meters := by
  induction ms generalizing s u with
  | nil => simp only [State.setRunning, List.foldl_nil, State.withMeters, ← h]
  | cons n ms ih =>
    have hn : u.meter n = s.meter n := State.meter_congr (by rw [h]) n
    have := ih (s := s.setMeter n { s.meter n with running := running }) (u := u.setMeter n { u.meter n with running := running })
      (by simp [h, hn])
    exact this

/-- R45, R46: the meters that change are counted once each. -/
theorem State.notYet_eq_countP (s : State) {listed : Fin 128 → Bool} (h : ∀ m, m ∈ ms ↔ listed m = true) :
    s.notYet running ms = (List.finRange 128).countP fun m => listed m && ((s.meter m).running != running) := by
  rw [State.notYet, List.countP_eq_length_filter]
  refine List.Perm.length_eq ((List.perm_ext_iff_of_nodup (ms.nodup_dedup.filter _) ((List.nodup_finRange _).filter _)).2 ?_)
  intro m
  simp [h]

end

/-! ### What the own part of each command comes to -/

section
variable {c : Control} {i : Fin 4} {s : State} {m : Fin 128}

theorem ownMeterSet_noMeter (h : meterIndex c.index.toNat = none) :
    ownMeterSet c i s = Done.same s (badMeter detailRange) := by simp only [ownMeterSet, h]

theorem ownMeterSet_illCoded (h : meterIndex c.index.toNat = some m) (hx : (s.meter m).changed c.arg (meterFields c) = none) :
    ownMeterSet c i s = Done.same s (badMeter detailRange) := by simp only [ownMeterSet, h, hx]

variable {x : Meter}

theorem ownMeterSet_upward (h : meterIndex c.index.toNat = some m) (hx : (s.meter m).changed c.arg (meterFields c) = some x)
    (hup : cascadeOutOfOrder c.arg m x.source = true) :
    ownMeterSet c i s = Done.same s (badMeter detailCascadeOrder) := by simp only [ownMeterSet, h, hx, if_pos hup]

theorem ownMeterSet_unfit (h : meterIndex c.index.toNat = some m) (hx : (s.meter m).changed c.arg (meterFields c) = some x)
    (hup : ¬ cascadeOutOfOrder c.arg m x.source = true) (hfit : s.partnerRefused c.arg m x.partner = true) :
    ownMeterSet c i s = Done.same s (badMeter detailPartner) := by simp only [ownMeterSet, h, hx, if_neg hup, if_pos hfit]

theorem ownMeterSet_set (h : meterIndex c.index.toNat = some m) (hx : (s.meter m).changed c.arg (meterFields c) = some x)
    (hup : ¬ cascadeOutOfOrder c.arg m x.source = true) (hfit : ¬ s.partnerRefused c.arg m x.partner = true) :
    ownMeterSet c i s =
      { state := s.writeMeter m x, reply := { status := .ok, data := meterRecord ((s.writeMeter m x).meter m) } } := by
  simp only [ownMeterSet, h, hx, if_neg hup, if_neg hfit]

theorem ownMeterRead_noMeter (h : meterIndex c.index.toNat = none) :
    ownMeterRead c i s = Done.same s (badMeter detailRange) := by simp only [ownMeterRead, h]

theorem ownMeterRead_meter (h : meterIndex c.index.toNat = some m) :
    ownMeterRead c i s = Done.same s { status := .ok, data := meterRecord (s.meter m) } := by simp only [ownMeterRead, h]

theorem ownMeterReload_noMeter (h : meterIndex c.index.toNat = none) :
    ownMeterReload c i s = Done.same s (badMeter detailRange) := by simp only [ownMeterReload, h]

theorem ownMeterReload_meter (h : meterIndex c.index.toNat = some m) :
    ownMeterReload c i s = { state := s.setMeter m (s.meter m).reloaded, reply := { status := .ok } } := by
  simp only [ownMeterReload, h]

variable {running : Bool}

theorem setRunState_noList (h : meterList c = none) : setRunState running c s = Done.same s (badMeter detailRange) := by
  simp only [setRunState, h]

theorem setRunState_list {ms : List (Fin 128)} (h : meterList c = some ms) : setRunState running c s =
    { state := s.setRunning running ms, reply := { status := .ok, arg := BitVec.ofNat 8 (s.notYet running ms) } } := by
  simp only [setRunState, h]

end

/-- R40: one ill-coded named field leaves no meter. -/
theorem Meter.changed_none {x : Meter} {arg : Byte} {f : MeterFields}
    (h : (arg.getLsbD 0 ∧ f.limit = none) ∨ (arg.getLsbD 1 ∧ f.increment = none) ∨ (arg.getLsbD 2 ∧ f.period = none)
      ∨ (arg.getLsbD 3 ∧ f.source = none) ∨ (arg.getLsbD 4 ∧ f.partner = none)) : x.changed arg f = none := by
  rw [Option.eq_none_iff_forall_ne_some]
  intro y hy
  obtain ⟨_, _, _, _, _, hl, hi, hp, hs, hn, -⟩ := Meter.changed_eq_some.1 hy
  rcases h with h | h | h | h | h
  · exact nomatch (selected_none h).symm.trans hl
  · exact nomatch (selected_none h).symm.trans hi
  · exact nomatch (selected_none h).symm.trans hp
  · exact nomatch (selected_none h).symm.trans hs
  · exact nomatch (selected_none h).symm.trans hn

/-! ### The accepted commands -/

/-- Settles O44: by the checks of R41 in their order; every meter afterwards is `State.meter_writeMeter`. -/
theorem meterSet : Obligations.MeterSet := by
  intro s c rest i x hacc hop f refused
  obtain ⟨hacc, hclaim⟩ := hacc
  have same {r : Byte} (hown : ownMeterSet c i (s.unflagged.begun c rest i x) = Done.same _ (badMeter r)) : refused r :=
    congrArg Host.Outcome.next (live_accepted_same hacc hop (fun _ => hclaim) hown)
  refine ⟨fun hbig => same (ownMeterSet_noMeter (meterIndex_none hbig)), fun m hm => ?_⟩
  have hindex := meterIndex_eq_some.2 hm
  intro y
  refine ⟨fun hbad => same (ownMeterSet_illCoded hindex (Meter.changed_none hbad)), ?_⟩
  intro limit increment period source partner hl hi hp hs hn upward unfit
  have hchanged : y.changed c.arg f = some (y.configured limit increment period source partner) :=
    Meter.changed_eq_some.2 ⟨limit, increment, period, source, partner, hl, hi, hp, hs, hn, rfl⟩
  have hup : cascadeOutOfOrder c.arg m source = true ↔ upward := cascadeOutOfOrder_iff
  have hfit : (s.unflagged.begun c rest i x).partnerRefused c.arg m partner = true ↔ unfit := State.partnerRefused_iff
  refine ⟨fun h => same (ownMeterSet_upward hindex hchanged (hup.2 h)),
    fun hnup h => same (ownMeterSet_unfit hindex hchanged (mt hup.1 hnup) (hfit.2 h)), fun hnup hnfit => ?_⟩
  refine ⟨_, fun n => s.meter_writeMeter m n (y.configured limit increment period source partner),
    congrArg Host.Outcome.next (live_accepted hacc hop (fun _ => hclaim) rfl ?_)⟩
  refine (ownMeterSet_set (s := s.unflagged.begun c rest i x) hindex hchanged (mt hup.1 hnup) (mt hfit.1 hnfit)).trans ?_
  rw [State.writeMeter_eq (s := s) (u := s.unflagged.begun c rest i x) rfl]
  rfl

/-- Settles O45: by the range of INDEX, of COUNT and of the DATA words. -/
theorem meterReadReloadHoldRun : Obligations.MeterReadReloadHoldRun := by
  intro s c rest i x hacc answers range listed changes ranges
  have read (hop : Op.ofCode c.op = some .meterRead) {r : Reply}
      (hown : ownMeterRead c i (s.unflagged.begun c rest i x) = Done.same _ r) : answers .meterRead s r :=
    congrArg Host.Outcome.next (live_accepted_same hacc hop nofun hown)
  refine ⟨fun hop hbig => read hop (ownMeterRead_noMeter (meterIndex_none hbig)),
    fun m hop hm => read hop (ownMeterRead_meter (meterIndex_eq_some.2 hm)), fun hclaim => ?_⟩
  refine ⟨fun hop hbig => congrArg Host.Outcome.next (live_accepted_same hacc hop (fun _ => hclaim)
      (ownMeterReload_noMeter (meterIndex_none hbig))),
    fun m hop hm => congrArg Host.Outcome.next (live_accepted hacc hop (fun _ => hclaim) rfl
      (ownMeterReload_meter (meterIndex_eq_some.2 hm))),
    fun hop hbad => congrArg Host.Outcome.next (live_accepted_same hacc hop (fun _ => hclaim)
      (setRunState_noList (meterList_none hbad))),
    fun hop hbad => congrArg Host.Outcome.next (live_accepted_same hacc hop (fun _ => hclaim)
      (setRunState_noList (meterList_none hbad))), fun running hranges hop => ?_⟩
  obtain ⟨ms, hms, hmem⟩ := meterList_some hranges
  have hget (m : Fin 128) : (s.setRunning running ms).bank.meters.get m =
      if listed m then { s.bank.meters.get m with running := running } else s.bank.meters.get m := by
    refine (s.meter_setRunning running ms m).trans ?_
    simp only [hmem]
    rfl
  have hown : setRunState running c (s.unflagged.begun c rest i x) =
      { state := (s.withMeters (s.setRunning running ms).bank.meters).unflagged.begun c rest i x
        reply := { status := .ok, arg := BitVec.ofNat 8 ((List.finRange 128).countP (changes running)) } } := by
    rw [setRunState_list hms, State.setRunning_eq (s := s) (u := s.unflagged.begun c rest i x) running ms rfl,
      State.notYet_eq_countP running ms _ hmem]
    rfl
  refine ⟨_, hget, ?_⟩
  cases running with
  | false => exact congrArg Host.Outcome.next (live_accepted hacc hop (fun _ => hclaim) rfl hown)
  | true => exact congrArg Host.Outcome.next (live_accepted hacc hop (fun _ => hclaim) rfl hown)

end Sys2Proof.Machine
end

section
/-! PROOF. The slot event besides its choice (R29, R72, R75, R76, R105, R106, R108). -/

namespace Sys2Proof.Machine

/-- R29: whether a meter listens to slot source events. -/
def Meter.countsSlots (m : Meter) : Bool :=
  match m.source with
  | .slots _ => true
  | .mark _ => false
  | .cascade _ => false

/-- R29: the slot source event, where a meter listens to it, and the divider's advance. -/
theorem State.slotSource_eq (s : State) : s.slotSource = { s with
    bank := { s.bank with slotDivider := s.bank.slotDivider + 1 }
    handover := { s.handover with
      sources := s.handover.sources ++ if s.bank.meters.indices Meter.countsSlots = [] then []
        else [{ origin := .slot s.bank.slotDivider, targets := s.bank.meters.indices Meter.countsSlots }] } } := by
  have h := s.handSource_eq (.slot s.bank.slotDivider) Meter.countsSlots
  show { s.handSource (.slot s.bank.slotDivider) Meter.countsSlots with
    bank := { (s.handSource (.slot s.bank.slotDivider) Meter.countsSlots).bank with
      slotDivider := (s.handSource (.slot s.bank.slotDivider) Meter.countsSlots).bank.slotDivider + 1 } } = _
  rw [h]

/-- R75, R76: the calendar after a slot event, the cell in transmission apart. -/
def Calendar.advanced (x : Calendar) : Calendar :=
  if x.position + 1 < x.activeBank.length then { x with position := x.position + 1 }
  else if x.commitPending then { x.swap with position := 0 } else { x with position := 0 }

/-- R108: the tick divider rises, and makes a tick where it passes 1023. -/
theorem State.countSlot_eq (s : State) : s.countSlot = { s with
    tx := { s.tx with tickDivider := s.tx.tickDivider + 1 }
    handover := { s.handover with
      sessionTicks := s.handover.sessionTicks + if s.tx.tickDivider = 1023 then 1 else 0
      eventTicks := s.handover.eventTicks + if s.tx.tickDivider = 1023 then 1 else 0 } } := by
  have htick : s.tx.tickDivider + 1 = 0 ↔ s.tx.tickDivider = 1023 := by bv_omega
  simp only [State.countSlot, htick]
  split <;> rfl

/-- R75, R76: a slot event's advance reaches the calendar and the flags alone. -/
theorem State.advance_parts (s : State) : ∃ flags, s.advance = { s with
      cal := s.cal.advanced
      handover := { s.handover with flags := flags } }
    ∧ (¬ s.cal.position + 1 < s.cal.activeBank.length → s.cal.commitPending = true → .calendarSwapped ∈ flags) := by
  unfold State.advance Calendar.advanced
  split
  · next h => exact ⟨_, rfl, fun hw => absurd h hw⟩
  · split
    · refine ⟨_, State.hand_eq _ _, fun _ _ => ?_⟩
      split
      · assumption
      · simp
    · next h => exact ⟨_, rfl, fun _ hp => absurd hp h⟩

/-- R75: the parts of a slot event: what it counts, a selection, and the cell `c` sent. -/
theorem State.slotEvent_parts {s : State} (h : s.cal.inTx = none) :
    ∃ c t, s.slotSource.countSlot.SelectsTo t ∧ s.slotEvent = t.advance.transmit c :=
  ⟨_, _, State.SelectsTo.choose _ _, by simp only [State.slotEvent, h]; rfl⟩

/-- R106: the cell as sent has its header check computed anew. -/
theorem TxCell.sent_eq (c : TxCell) : c.sent = match c with
    | .pool k _ => { header := { k.header with hop := k.header.hop - 1 }.toWord, payload := k.payload }
    | .control k => { header := k.cell.header.toWord, payload := k.cell.payload }
    | .idle => { header := 0x0000003C#32, payload := 0 } := by
  cases c with
  | pool k q => rfl
  | control k => rfl
  | idle => exact RawCell.idle_eq

/-- Settles O22: a selection reaches only what `State.SelectsTo` names, so each clause is read off the other parts of the slot event. -/
theorem slotEventBookkeeping : Obligations.SlotEventBookkeeping := by
  intro s hheld hin listens wraps ticks framed
  obtain ⟨c, t, hselects, hevent⟩ := State.slotEvent_parts (s := s.unflagged) hin
  obtain ⟨flags, hadvance, hswaps⟩ := t.advance_parts
  have hexec : exec .slotEvent s = .next _ := congrArg Host.Outcome.next ((live_running hheld).trans (oneEvent_eq_unflagged _ s))
  rw [hevent, hadvance] at hexec
  rw [State.slotSource_eq, State.countSlot_eq] at hselects
  obtain ⟨_, _, _, _, _, _, _, rfl⟩ := hselects
  refine ⟨_, c, hexec, rfl, rfl, ?outgoing, rfl, rfl, rfl, rfl, rfl, fun hw => ?advances, fun hw hp => ?wraps,
    fun hw hp => ⟨?swaps, ?handed⟩, rfl, rfl, rfl, rfl, rfl, rfl, rfl, rfl, rfl, rfl, rfl, rfl, hheld⟩
  case outgoing => exact congrArg some (c.sent_eq.trans (by cases c <;> rfl))
  case advances => exact congrArg (fun x : Calendar => { x with inTx := some c }) (if_pos (not_not.1 hw))
  case wraps =>
    exact congrArg (fun x : Calendar => { x with inTx := some c }) ((if_neg hw).trans (if_neg (Bool.eq_false_iff.1 hp)))
  case swaps => exact congrArg (fun x : Calendar => { x with inTx := some c }) ((if_neg hw).trans (if_pos hp))
  case handed => exact List.mem_append_right _ (hswaps hw hp)

end Sys2Proof.Machine
end

section
/-! PROOF. Admission to the egress queues and to the drop queue (R57 to R63). -/

namespace Sys2Proof.Machine

-- One proof body at a time: each thread reserves memory, and the whole text as one file comes close to the limit of the check.
set_option Elab.async false

/-! ### Egress queues (R57 to R61) -/

section
variable {s : State} {q : Fin 8} {c : QueuedCell} {de : Bool}

/-- R57, check 1. -/
theorem State.verdict_fullByLimit (hlimit : (s.queue q).limit ≤ (s.queue q).depth) : s.verdict q de = .fullByLimit :=
  if_pos hlimit

/-- R57, check 2. -/
theorem State.verdict_deThreshold (hlimit : (s.queue q).depth < (s.queue q).limit) (hde : de = true)
    (hthreshold : (s.queue q).deThreshold ≤ (s.queue q).depth) : s.verdict q de = .deThreshold := by
  rw [State.verdict, if_neg (Nat.not_le.2 hlimit), if_pos ⟨hde, hthreshold⟩]

/-- R57, check 3, for a cell that passes the first two. -/
theorem State.verdict_passed (hlimit : (s.queue q).depth < (s.queue q).limit)
    (hde : de = false ∨ (s.queue q).depth < (s.queue q).deThreshold) :
    s.verdict q de = if s.pool.free = 0 then .poolEmpty else .accepted := by
  have hpass : ¬ (de = true ∧ (s.queue q).deThreshold ≤ (s.queue q).depth) := by
    rintro ⟨rfl, hle⟩
    exact hde.elim nofun (Nat.not_lt.2 hle)
  rw [State.verdict, if_neg (Nat.not_le.2 hlimit), if_neg hpass]

theorem State.admitEgress_accepted (h : s.verdict q c.header.de = .accepted) : s.admitEgress q c = s.accept q c := by
  simp only [State.admitEgress, h]

/-- R59: everything an acceptance does. -/
theorem State.accept_eq (s : State) (q : Fin 8) (c : QueuedCell) : s.accept q c = { s with
    pool := { s.pool with
      free := s.pool.free - 1
      queues := s.pool.queues.set q { s.queue q with cells := (s.queue q).cells ++ [c] } }
    counters := { s.counters with
      queues := s.counters.queues.set q
        { s.counters.queues.get q with enqueued := (s.counters.queues.get q).enqueued + 1 } }
    streams := match c.owner with
      | some i => s.streams.set i { s.streams.get i with queued := (s.streams.get i).queued + 1 }
      | none => s.streams } := by
  obtain ⟨_, _, owner⟩ := c
  cases owner <;> rfl

end

/-- Settles O11: by the first check of R57 that fails. -/
theorem egressAdmission : Obligations.EgressAdmission := by
  intro s q c x other
  have hother (z : State) : z.countOther c.header.kind c.owner = other z := by
    simp only [State.countOther, other]
    cases c.owner <;> simp
  refine ⟨fun hfull => ?_, fun hroom hde hthreshold => ?_, fun hroom hpass hempty => ?_, fun hroom hpass hfree => ?_⟩
  · simp only [State.admitEgress, State.verdict_fullByLimit (s := s) (q := q) hfull, hother]
  · simp only [State.admitEgress, State.verdict_deThreshold (s := s) (q := q) hroom hde hthreshold, hother]
  · have hverdict := (State.verdict_passed (s := s) (q := q) hroom hpass).trans (if_pos hempty)
    simp only [State.admitEgress, hverdict, hother]
  · have hverdict := (State.verdict_passed (s := s) (q := q) hroom hpass).trans (if_neg (Nat.ne_of_gt hfree))
    rw [State.admitEgress_accepted hverdict, State.accept_eq]
    cases c.owner <;> rfl

/-! ### The drop queue (R62, R63) -/

section
variable {s : State} (i : Fin 256) (c : RawCell)

/-- R63: a drop queue at its limit refuses. -/
theorem State.admitDrop_full (h : s.settings.dropLimit ≤ s.pool.drop.length) : s.admitDrop i c =
    ((s.countDevice .dropFullDiscards).hand .dropFull).countOther (Header.ofWord c.header).kind (some i) := if_pos h

/-- R63: a cell that finds room in the drop queue, and no free buffer, is refused. -/
theorem State.admitDrop_noBuffer (hroom : s.pool.drop.length < s.settings.dropLimit) (hempty : s.pool.free = 0) :
    s.admitDrop i c =
      ((((s.countDevice .dropFullDiscards).countDevice .poolEmptyDiscards).hand .dropFull).hand .poolEmpty).countOther
        (Header.ofWord c.header).kind (some i) := by
  rw [State.admitDrop, if_neg (Nat.not_le.2 hroom), if_pos hempty]

/-- R63: an acceptance takes a buffer, and the cell joins the tail. -/
theorem State.admitDrop_accepted (hroom : s.pool.drop.length < s.settings.dropLimit) (hfree : 0 < s.pool.free) :
    s.admitDrop i c = { s with pool := { s.pool with free := s.pool.free - 1, drop := s.pool.drop ++ [c] } } := by
  rw [State.admitDrop, if_neg (Nat.not_le.2 hroom), if_neg (Nat.ne_of_gt hfree)]
  rfl

end

/-- Settles O12: by the first check of R63 that fails. -/
theorem dropAdmission : Obligations.DropAdmission := fun _ i c =>
  ⟨fun hfull => State.admitDrop_full i c hfull, fun hroom hempty => State.admitDrop_noBuffer i c hroom hempty,
    fun hroom hfree => State.admitDrop_accepted i c hroom hfree⟩

end Sys2Proof.Machine
end

section
/-! PROOF. SET, QUEUE-SET and QUEUE-READ, accepted (R65, R66, R68, R143, R175). -/

namespace Sys2Proof.Machine

-- One proof body at a time: each thread reserves memory, and the whole text as one file comes close to the limit of the check.
set_option Elab.async false

/-! ### The value of a setting (R142, R143) -/

/-- R180: a queue index field names the queue of its number. -/
theorem decodeQueue_eq_some {x : Nat} {q : Fin 8} : decodeQueue x = some q ↔ x = q.val := by
  unfold decodeQueue
  split
  · rw [Option.some.injEq, Fin.ext_iff]
  · next h =>
    have := q.isLt
    simp only [reduceCtorEq, false_iff]
    omega

theorem decodeQueue_none {x : Nat} (h : 7 < x) : decodeQueue x = none := dif_neg (by omega)

/-- R180: a node address field is read back as the word it came from. -/
theorem nodeField_of_decodeNode {w : Word} {n : Option (BitVec 6)} (h : decodeNode w = some n) : (nodeField n).setWidth 32 = w := by
  unfold decodeNode at h
  split at h
  · next hw =>
    cases h
    refine BitVec.eq_of_toNat_eq ?_
    simp only [nodeField, BitVec.toNat_setWidth]
    omega
  · split at h
    · next hw =>
      cases h
      rw [hw]
      rfl
    · cases h

/-- R142, R143: a setting that SET has written reads back as the value it carried. -/
theorem settingValue_setSetting {x y : Settings} {name : SettingName} {w : Word} (h : setSetting x name w = some y) :
    settingValue y name = w := by
  have whole : BitVec.ofNat 32 w.toNat = w := by simp
  cases name with
  | unknownPolicy =>
    simp only [setSetting] at h
    split at h
    · next hw =>
      cases h
      exact (BitVec.eq_of_toNat_eq hw).symm
    · split at h
      · next hw =>
        cases h
        exact (BitVec.eq_of_toNat_eq hw).symm
      · cases h
  | unknownQueue =>
    obtain ⟨q, hq, rfl⟩ := Option.map_eq_some_iff.1 h
    exact (congrArg _ (decodeQueue_eq_some.1 hq).symm).trans whole
  | reportTarget =>
    obtain ⟨n, hn, rfl⟩ := Option.map_eq_some_iff.1 h
    exact nodeField_of_decodeNode hn
  | reportMask =>
    obtain ⟨hw, he⟩ := Option.ite_none_right_eq_some.1 h
    cases he
    refine BitVec.eq_of_toNat_eq ?_
    simp only [settingValue, BitVec.toNat_setWidth]
    omega
  | controlHop =>
    obtain ⟨hw, he⟩ := Option.ite_none_right_eq_some.1 h
    cases he
    have : w.toNat ≤ 15 := by simp [inRange] at hw; omega
    refine BitVec.eq_of_toNat_eq ?_
    simp only [settingValue, BitVec.toNat_setWidth]
    omega
  | dropLimit | reportTimeout | reportRetries | sessionTimeout =>
    obtain ⟨-, he⟩ := Option.ite_none_right_eq_some.1 h
    cases he
    exact whole

/-! ### SET -/

section
variable {c : Control} {i : Fin 4} {s : State} {name : SettingName} {y : Settings}

theorem ownSet_noSetting (h : decodeSetting c.arg = none) : ownSet c i s = Done.same s { status := .badParam } := by
  simp only [ownSet, h]

theorem ownSet_illValued (h : decodeSetting c.arg = some name) (hy : setSetting s.settings name (c.word 0) = none) :
    ownSet c i s = Done.same s { status := .badParam } := by
  simp only [ownSet, h, hy]

/-- R65: a *drop limit* below the drop queue's depth is refused. -/
theorem ownSet_tooDeep (h : decodeSetting c.arg = some name) (hy : setSetting s.settings name (c.word 0) = some y)
    (hdeep : name = .dropLimit ∧ y.dropLimit < s.pool.drop.length) : ownSet c i s = Done.same s { status := .busy } := by
  simp only [ownSet, h, hy, if_pos hdeep]

/-- R143, R175: the setting is written, and the reply carries its value. -/
theorem ownSet_set (h : decodeSetting c.arg = some name) (hy : setSetting s.settings name (c.word 0) = some y)
    (hdeep : ¬ (name = .dropLimit ∧ y.dropLimit < s.pool.drop.length)) : ownSet c i s =
      { state := { s with settings := y, events := s.events.settingsChanged s.settings y }
        reply := { status := .ok, data := dataWords (c.word 0) 0 0 0 } } := by
  simp only [ownSet, h, hy, if_neg hdeep, settingValue_setSetting hy, Reply.word0]

end

/-- Settles O39: by the checks of R143 and R65 in their order. -/
theorem setCommand : Obligations.SetCommand := by
  intro s c rest i x hacc hop refused
  obtain ⟨hacc, hclaim⟩ := hacc
  have same {st : Status} (hown : ownSet c i (s.unflagged.begun c rest i x) = Done.same _ { status := st }) : refused st :=
    congrArg Host.Outcome.next (live_accepted_same hacc hop (fun _ => hclaim) hown)
  refine ⟨fun hnone => same (ownSet_noSetting hnone),
    fun name hname => ⟨fun hill => same (ownSet_illValued hname hill), fun y hy => ?_⟩⟩
  refine ⟨fun hdrop hdeep => same (ownSet_tooDeep hname hy ⟨hdrop, hdeep⟩), fun hroom => ?_⟩
  intro u abandoned
  have hevents : u.settingsChanged s.settings y =
      if y.reportTarget ≠ s.settings.reportTarget ∧ u.reportState ≠ .idle then abandoned else u :=
    if_congr (and_congr_left' ne_comm) rfl rfl
  rw [← hevents]
  exact congrArg Host.Outcome.next (live_accepted hacc hop (fun _ => hclaim) rfl
    (ownSet_set hname hy fun ⟨hdrop, hdeep⟩ => Nat.not_lt.2 (hroom hdrop) hdeep))

/-! ### The fields of QUEUE-SET (R66) -/

/-- R66: a field that is selected takes the new value, which has to be in its range; another keeps its own. -/
theorem selected_eq_some {α : Type} {arg : Byte} {k : Nat} {old new v : α} {p : Prop} [Decidable p] :
    selected arg k old (if p then some new else none) = some v ↔
      (arg.getLsbD k = true → p) ∧ v = if arg.getLsbD k then new else old := by
  unfold selected
  cases arg.getLsbD k <;> simp [eq_comm]

namespace EgressQueue

variable {x y : EgressQueue} {arg : Byte} {f : QueueFields} {fill : Bool}

/-- R66: the limit that QUEUE-SET would leave. -/
def newLimit (x : EgressQueue) (arg : Byte) (f : QueueFields) : Nat := if arg.getLsbD 0 then f.limit else x.limit

/-- R66, checks 2 and 3: a named field is out of range or ill-coded, or the named DE threshold is above the limit left. -/
def IllSet (x : EgressQueue) (arg : Byte) (f : QueueFields) : Prop :=
  (arg.getLsbD 0 = true ∧ 512 < f.limit)
    ∨ (arg.getLsbD 1 = true ∧ (512 < f.deThreshold ∨ x.newLimit arg f < f.deThreshold))
    ∨ (arg.getLsbD 2 = true ∧ f.fill = none)

/-- R66: the queue that QUEUE-SET leaves, its fill as given. -/
def configured (x : EgressQueue) (arg : Byte) (f : QueueFields) (fill : Bool) : EgressQueue :=
  { x with
    limit := x.newLimit arg f
    deThreshold :=
      if arg.getLsbD 1 then f.deThreshold
      else if arg.getLsbD 0 then min x.deThreshold (x.newLimit arg f) else x.deThreshold
    fill := fill }

/-- R66: a DE threshold that is not named follows a named limit down. -/
theorem configured_eq : x.configured arg f fill = { x with
    limit := x.newLimit arg f
    deThreshold :=
      if arg.getLsbD 0 ∧ ¬ arg.getLsbD 1 then
        min (if arg.getLsbD 1 then f.deThreshold else x.deThreshold) (x.newLimit arg f)
      else if arg.getLsbD 1 then f.deThreshold else x.deThreshold
    fill := fill } := by
  unfold configured
  cases arg.getLsbD 1 <;> simp

/-- R66: everything the checks 2 and 3 of QUEUE-SET can come to. -/
theorem changed_eq_some : x.changed arg f = some y ↔
    ¬ x.IllSet arg f ∧ ∃ fill, selected arg 2 x.fill f.fill = some fill ∧ y = x.configured arg f fill := by
  constructor
  · intro h
    unfold changed at h
    split at h
    · next limit deThreshold fill hl hd hf =>
      obtain ⟨hlimit, rfl⟩ := selected_eq_some.1 hl
      obtain ⟨hthreshold, rfl⟩ := selected_eq_some.1 hd
      obtain ⟨hbelow, he⟩ := Option.ite_none_left_eq_some.1 h
      cases he
      refine ⟨?_, fill, hf, ?_⟩
      · rintro (⟨hk, hbad⟩ | ⟨hk, hbad | hbad⟩ | hbad)
        · exact Nat.not_le.2 hbad (hlimit hk)
        · exact Nat.not_le.2 hbad (hthreshold hk)
        · exact hbelow ⟨hk, by rwa [if_pos hk]⟩
        · exact nomatch (selected_none hbad).symm.trans hf
      · exact configured_eq.symm
    · cases h
  · rintro ⟨hok, fill, hf, rfl⟩
    have hl := (selected_eq_some (old := x.limit) (new := f.limit)).2
      ⟨fun hk => Nat.not_lt.1 fun hbad => hok (.inl ⟨hk, hbad⟩), rfl⟩
    have hd := (selected_eq_some (old := x.deThreshold) (new := f.deThreshold)).2
      ⟨fun hk => Nat.not_lt.1 fun hbad => hok (.inr (.inl ⟨hk, .inl hbad⟩)), rfl⟩
    have hbelow (hk : arg.getLsbD 1 = true) : ¬ x.newLimit arg f < f.deThreshold :=
      fun hbad => hok (.inr (.inl ⟨hk, .inr hbad⟩))
    simp only [changed, hl, hd, hf]
    rw [if_neg (fun ⟨hk, hbad⟩ => hbelow hk (by rwa [if_pos hk] at hbad))]
    exact congrArg some configured_eq.symm

/-- R66: a fill that passes check 2 has a value. -/
theorem exists_fill (h : ¬ x.IllSet arg f) : ∃ fill, selected arg 2 x.fill f.fill = some fill := by
  unfold selected
  split
  · next hk => exact Option.ne_none_iff_exists'.1 fun hnone => h (.inr (.inr ⟨hk, hnone⟩))
  · exact ⟨_, rfl⟩

theorem newLimit_named (h : arg.getLsbD 0 = true) : x.newLimit arg f = f.limit := if_pos h

theorem changed_none (h : x.IllSet arg f) : x.changed arg f = none :=
  Option.eq_none_iff_forall_ne_some.2 fun _ hy => (changed_eq_some.1 hy).1 h

end EgressQueue

/-! ### QUEUE-SET and QUEUE-READ -/

section
variable {c : Control} {i : Fin 4} {s : State} {q : Fin 8} {x : EgressQueue}

theorem ownQueueSet_noQueue (h : decodeQueue c.index.toNat = none) :
    ownQueueSet c i s = Done.same s { status := .badParam } := by
  simp only [ownQueueSet, h]

theorem ownQueueSet_illCoded (h : decodeQueue c.index.toNat = some q) (hx : (s.queue q).changed c.arg (queueFields c) = none) :
    ownQueueSet c i s = Done.same s { status := .badParam } := by
  simp only [ownQueueSet, h, hx]

/-- R66: a named limit below the queue's depth is refused. -/
theorem ownQueueSet_tooDeep (h : decodeQueue c.index.toNat = some q) (hx : (s.queue q).changed c.arg (queueFields c) = some x)
    (hdeep : c.arg.getLsbD 0 = true ∧ x.limit < x.depth) : ownQueueSet c i s = Done.same s { status := .busy } := by
  simp only [ownQueueSet, h, hx, if_pos hdeep]

theorem ownQueueSet_set (h : decodeQueue c.index.toNat = some q) (hx : (s.queue q).changed c.arg (queueFields c) = some x)
    (hdeep : ¬ (c.arg.getLsbD 0 = true ∧ x.limit < x.depth)) : ownQueueSet c i s =
      { state := s.setQueue q x
        reply := { status := .ok, data := queueRecord x.limit x.deThreshold x.fill x.depth 0 } } := by
  simp only [ownQueueSet, h, hx, if_neg hdeep]

/-- R68: INDEX names an egress queue. -/
theorem ownQueueRead_queue (h : decodeQueue c.index.toNat = some q) : ownQueueRead c i s = Done.same s
    { status := .ok
      data := queueRecord (s.queue q).limit (s.queue q).deThreshold (s.queue q).fill (s.queue q).depth
        (BitVec.ofNat 32 s.pool.free) } := by
  simp only [ownQueueRead, h]

/-- R68: INDEX 8 names the drop queue. -/
theorem ownQueueRead_drop (h : c.index.toNat = 8) : ownQueueRead c i s = Done.same s
    { status := .ok
      data := queueRecord s.settings.dropLimit 0 false s.pool.drop.length (BitVec.ofNat 32 s.pool.free) } := by
  simp only [ownQueueRead, decodeQueue_none (by omega : 7 < c.index.toNat), if_pos h]

theorem ownQueueRead_noQueue (h : 8 < c.index.toNat) : ownQueueRead c i s = Done.same s { status := .badParam } := by
  simp only [ownQueueRead, decodeQueue_none (by omega : 7 < c.index.toNat), if_neg (Nat.ne_of_gt h)]

end

/-- Settles O46: by the range of INDEX, and by the checks of R66 in their order. -/
theorem queueCommands : Obligations.QueueCommands := by
  intro s c rest i x hacc answers free f
  have read (hop : Op.ofCode c.op = some .queueRead) {r : Reply}
      (hown : ownQueueRead c i (s.unflagged.begun c rest i x) = Done.same _ r) : answers .queueRead s r :=
    congrArg Host.Outcome.next (live_accepted_same hacc hop nofun hown)
  have refuse (hop : Op.ofCode c.op = some .queueSet) (hclaim : s.sess.claim = some i) {st : Status}
      (hown : ownQueueSet c i (s.unflagged.begun c rest i x) = Done.same _ { status := st }) :
      answers .queueSet s { status := st } :=
    congrArg Host.Outcome.next (live_accepted_same hacc hop (fun _ => hclaim) hown)
  refine ⟨fun hop hbig => read hop (ownQueueRead_noQueue hbig), fun hop h8 => read hop (ownQueueRead_drop h8),
    fun hop hclaim hbig => refuse hop hclaim (ownQueueSet_noQueue (decodeQueue_none hbig)), fun q hq => ?_⟩
  have hindex := decodeQueue_eq_some.2 hq
  intro y limit bad threshold
  refine ⟨fun hop => read hop (ownQueueRead_queue hindex),
    fun hop hclaim hbad => refuse hop hclaim (ownQueueSet_illCoded hindex (EgressQueue.changed_none hbad)),
    fun hop hclaim hok hnamed hdeep => ?_, fun fill hop hclaim hok hroom hfill => ?_⟩
  · obtain ⟨fill, hfill⟩ := EgressQueue.exists_fill hok
    have hchanged : y.changed c.arg f = some (y.configured c.arg f fill) :=
      EgressQueue.changed_eq_some.2 ⟨hok, fill, hfill, rfl⟩
    exact refuse hop hclaim (ownQueueSet_tooDeep hindex hchanged
      ⟨hnamed, (EgressQueue.newLimit_named hnamed).trans_lt hdeep⟩)
  · have hchanged : y.changed c.arg f = some (y.configured c.arg f fill) :=
      EgressQueue.changed_eq_some.2 ⟨hok, fill, hfill, rfl⟩
    refine congrArg Host.Outcome.next (live_accepted hacc hop (fun _ => hclaim) rfl (ownQueueSet_set hindex hchanged ?_))
    rintro ⟨hnamed, hdeep⟩
    refine hroom.elim (fun h => Bool.eq_false_iff.1 h hnamed) (Nat.not_le.2 ?_)
    exact (EgressQueue.newLimit_named hnamed).symm.trans_lt hdeep

end Sys2Proof.Machine
end

section
/-! PROOF. Laws L1 and L2 as one invariant, and the operations of the pool, the queues and the slot that keep it. -/

namespace Sys2Proof.Machine

-- One proof body at a time: each thread reserves memory, and the whole text as one file comes close to the limit of the check.
set_option Elab.async false

/-! ### The depths of the queues (R51, R55) -/

theorem State.depths_eq_sum (s : State) : s.depths = ∑ q : Fin 8, (s.queue q).depth := by
  rw [State.depths, Table.cells_eq_ofFn, List.map_ofFn, List.sum_ofFn]
  rfl

/-- Where one queue alone differs, the depths differ by what that queue holds. -/
theorem State.depths_of_one_queue {s t : State} {q : Fin 8} (h : ∀ p, p ≠ q → t.queue p = s.queue p) :
    t.depths + (s.queue q).depth = s.depths + (t.queue q).depth := by
  have hrest : ∑ p ∈ Finset.univ.erase q, (t.queue p).depth = ∑ p ∈ Finset.univ.erase q, (s.queue p).depth :=
    Finset.sum_congr rfl fun p hp => by rw [h p (Finset.ne_of_mem_erase hp)]
  rw [State.depths_eq_sum, State.depths_eq_sum, ← Finset.add_sum_erase _ _ (Finset.mem_univ q),
    ← Finset.add_sum_erase (a := q) _ _ (Finset.mem_univ q), hrest]
  omega

/-- R55: a queue within its bounds stays so with fewer cells. -/
theorem EgressQueue.Bounded.shrink {x : EgressQueue} {cs : List QueuedCell} (h : x.Bounded) (hcs : cs.length ≤ x.depth) :
    EgressQueue.Bounded { x with cells := cs } := by
  obtain ⟨hdepth, hthreshold, hlimit⟩ := h
  exact ⟨hcs.trans hdepth, hthreshold, hlimit⟩

/-! ### The invariant -/

/-- Laws L1 and L2: what `Obligations.PoolLawsKept` is about. -/
structure State.PoolLaws (s : State) : Prop where
  buffers : s.LawL1
  limits  : s.LawL2

/-- State `t` has the pool, the cell in transmission and the settings of `s`: all that laws L1 and L2 read. -/
def State.LeavesPool (s t : State) : Prop := t.pool = s.pool ∧ t.cal.inTx = s.cal.inTx ∧ t.settings = s.settings

@[simp] theorem State.leavesPool_iff {s t : State} :
    s.LeavesPool t ↔ t.pool = s.pool ∧ t.cal.inTx = s.cal.inTx ∧ t.settings = s.settings := .rfl

/-- An operation that keeps laws L1 and L2. -/
def KeepsPoolLaws (f : State → State) : Prop := ∀ s : State, s.PoolLaws → (f s).PoolLaws

/-- `s` with another cell in transmission, or none. -/
def State.carrying (s : State) (c : Option TxCell) : State := { s with cal := { s.cal with inTx := c } }

@[simp] theorem State.carrying_settings (s : State) (c : Option TxCell) : (s.carrying c).settings = s.settings := rfl

theorem State.carrying_inTx (s : State) : s.carrying s.cal.inTx = s := rfl

namespace State.PoolLaws

variable {s t : State}

/-- The laws read the pool, the settings, and whether a pool cell is in transmission. -/
theorem of_frame (h : s.PoolLaws) (hpool : t.pool = s.pool) (htx : t.poolInTx = s.poolInTx) (hsettings : t.settings = s.settings) :
    t.PoolLaws where
  buffers := by
    have := h.buffers
    simpa only [State.LawL1, State.depths, hpool, htx] using this
  limits := by
    have := h.limits
    simpa only [State.LawL2, State.queue, hpool, hsettings] using this

theorem of_leaves (h : s.PoolLaws) (ht : s.LeavesPool t) : t.PoolLaws := by
  obtain ⟨hpool, htx, hsettings⟩ := ht
  exact h.of_frame hpool (by rw [State.poolInTx, htx, State.poolInTx]) hsettings

/-- One egress queue changes within its bounds, and each cell it gains or loses goes with a buffer, or
with the cell in transmission. -/
theorem of_one_queue {q : Fin 8} (h : s.PoolLaws) (hother : ∀ p, p ≠ q → t.queue p = s.queue p) (hq : (t.queue q).Bounded)
    (hdrop : t.pool.drop = s.pool.drop) (hsettings : t.settings = s.settings)
    (hmoved : t.pool.free + (t.queue q).depth + t.poolInTx = s.pool.free + (s.queue q).depth + s.poolInTx) : t.PoolLaws where
  buffers := by
    have hheld := h.buffers
    have hdepths := State.depths_of_one_queue hother
    simp only [State.LawL1, hdrop] at hheld ⊢
    omega
  limits := by
    obtain ⟨hqueues, hlimits⟩ := h.limits
    refine ⟨fun p => ?_, by rwa [hdrop, hsettings]⟩
    by_cases hp : p = q
    · rwa [hp]
    · rw [hother p hp]
      exact hqueues p

/-- L1 and L2 where every queue is empty. -/
theorem of_flush (h : s.PoolLaws) (hpool : t.pool = s.pool.flush) (htx : t.cal.inTx = none) (hsettings : t.settings = s.settings) :
    t.PoolLaws := by
  have hq (q : Fin 8) : t.queue q = { s.queue q with cells := [] } := by
    rw [State.queue, hpool]
    exact Table.get_map _ _ _
  obtain ⟨hqueues, -, hdrop⟩ := h.limits
  refine ⟨?_, fun q => ?_, ?_, by rwa [hsettings]⟩
  · simp [State.LawL1, State.depths_eq_sum, State.poolInTx, hq, htx, hpool, EgressQueue.depth, Pool.flush]
  · rw [hq]
    exact (hqueues q).shrink (Nat.zero_le _)
  · rw [hpool]
    exact Nat.zero_le _

/-- R69: the laws hold in every state whose pool, calendar and settings are as after a power-on. -/
theorem of_powerOn (hpool : t.pool = .powerOn) (hcal : t.cal = .powerOn) (hsettings : t.settings = .powerOn) : t.PoolLaws :=
  have hreset : State.reset.PoolLaws := ⟨resetIsLawful.l1, resetIsLawful.l2⟩
  hreset.of_leaves ⟨hpool, congrArg _ hcal, hsettings⟩

end State.PoolLaws

namespace KeepsPoolLaws

theorem of_leaves {f : State → State} (hf : ∀ s : State, s.LeavesPool (f s)) : KeepsPoolLaws f := fun s h => h.of_leaves (hf s)

/-- R162: the laws do not read what is handed over, so an event may be run apart from it; a held part takes no event. -/
theorem live {f : State → State} (hf : KeepsPoolLaws f) : KeepsPoolLaws (live f) := fun s h => by
  cases hr : s.resetHeld with
  | true => rwa [live_held hr]
  | false =>
    rw [live_running hr, oneEvent_eq_unflagged]
    exact (hf s.unflagged (h.of_leaves ⟨rfl, rfl, rfl⟩)).of_leaves ⟨rfl, rfl, rfl⟩

end KeepsPoolLaws

/-! ### Cells that arrive (R57 to R63) -/

/-- R57 to R59: a refused cell leaves the pool as it was, and an accepted one finds room in its queue and a free buffer. -/
theorem State.admitEgress_pool_cases (s : State) (q : Fin 8) (c : QueuedCell) :
    (s.admitEgress q c).pool = s.pool
      ∨ ((s.queue q).depth < (s.queue q).limit ∧ 0 < s.pool.free ∧ s.admitEgress q c = s.accept q c) := by
  rcases s.verdict_cases q c.header.de with ⟨hv, -⟩ | ⟨hv, -⟩ | ⟨hv, -⟩ | ⟨hv, hroom, hfree⟩
  · exact .inl (by simp [State.admitEgress, hv])
  · exact .inl (by simp [State.admitEgress, hv])
  · exact .inl (by simp [State.admitEgress, hv])
  · exact .inr ⟨hroom, hfree, State.admitEgress_accepted hv⟩

namespace State.PoolLaws

variable {s : State}

/-- R59: an acceptance moves a free buffer to the tail of the queue. -/
theorem accept {q : Fin 8} (c : QueuedCell) (h : s.PoolLaws) (hroom : (s.queue q).depth < (s.queue q).limit)
    (hfree : 0 < s.pool.free) : (s.accept q c).PoolLaws := by
  have hpool : (s.accept q c).pool = { s.pool with
      free := s.pool.free - 1, queues := s.pool.queues.set q { s.queue q with cells := (s.queue q).cells ++ [c] } } := by
    rw [State.accept_eq]
  have hq : (s.accept q c).queue q = { s.queue q with cells := (s.queue q).cells ++ [c] } := by
    rw [State.queue, hpool]
    exact Table.get_set_self _ _ _
  have hdepth : ((s.accept q c).queue q).depth = (s.queue q).depth + 1 := by
    rw [hq]
    exact List.length_append
  obtain ⟨-, hthreshold, hlimit⟩ := h.limits.1 q
  refine h.of_one_queue (q := q) (fun p hp => ?_) ⟨?_, ?_, ?_⟩ (by rw [hpool]) (by simp) ?_
  · rw [State.queue, hpool]
    exact Table.get_set_ne _ _ hp.symm
  · rw [hdepth, hq]
    exact hroom
  · rwa [hq]
  · rwa [hq]
  · have htx : (s.accept q c).poolInTx = s.poolInTx := by simp [State.poolInTx]
    rw [hdepth, htx, hpool]
    simp only
    omega

theorem admitEgress (q : Fin 8) (c : QueuedCell) (h : s.PoolLaws) : (s.admitEgress q c).PoolLaws := by
  rcases s.admitEgress_pool_cases q c with hpool | ⟨hroom, hfree, he⟩
  · exact h.of_leaves ⟨hpool, by simp, by simp⟩
  · exact he ▸ h.accept c hroom hfree

/-- R63: an acceptance moves a free buffer to the tail of the drop queue. -/
theorem admitDrop (i : Fin 256) (c : RawCell) (h : s.PoolLaws) : (s.admitDrop i c).PoolLaws := by
  by_cases hroom : s.pool.drop.length < s.settings.dropLimit
  · by_cases hfree : 0 < s.pool.free
    · rw [State.admitDrop_accepted i c hroom hfree]
      obtain ⟨hqueues, -, hmax⟩ := h.limits
      have hheld := h.buffers
      refine ⟨?_, hqueues, by simpa using hroom, hmax⟩
      show s.pool.free - 1 + s.depths + (s.pool.drop ++ [c]).length + s.poolInTx = _
      rw [List.length_append, List.length_singleton]
      simp only [State.LawL1] at hheld
      omega
    · rw [State.admitDrop_noBuffer i c hroom (by omega)]
      exact h.of_leaves (by simp)
  · rw [State.admitDrop_full i c (by omega)]
    exact h.of_leaves (by simp)

theorem policeAndAdmit (i : Fin 256) (e : StreamEntry) (x : Header) (p : Payload) (h : s.PoolLaws) :
    (s.policeAndAdmit i e x p).PoolLaws := by
  simp only [State.policeAndAdmit]
  split
  · exact h.admitEgress _ _
  · next m _ =>
    have ht : (s.tested m).PoolLaws := h.of_leaves (by simp)
    split
    · exact ht.admitEgress _ _
    · split
      · exact State.PoolLaws.admitEgress _ _ (ht.of_leaves ⟨rfl, rfl, rfl⟩)
      · exact ht.of_leaves ⟨rfl, rfl, rfl⟩

theorem forwardPart (i : Fin 256) (e : StreamEntry) (x : Header) (p : Payload) (h : s.PoolLaws) :
    (s.forwardPart i e x p).PoolLaws := by
  unfold State.forwardPart
  split
  · exact h.of_leaves (by simp)
  · split
    · exact h.policeAndAdmit i e x p
    · exact h.admitEgress _ _

theorem applyAction (i : Fin 256) (e : StreamEntry) (c : RawCell) (h : s.PoolLaws) : (s.applyAction i e c).PoolLaws := by
  simp only [State.applyAction]
  split
  · exact h.forwardPart i e _ _
  · exact h.admitDrop i c
  · exact (h.admitDrop i c).forwardPart i e _ _
  · exact h.of_leaves (by simp)

theorem unknownLabel (x : Header) (p : Payload) (h : s.PoolLaws) : (s.unknownLabel x p).PoolLaws := by
  have hcount : ((s.countDevice .unknownLabel).hand .unknownLabel).PoolLaws := h.of_leaves (by simp)
  simp only [State.unknownLabel]
  split
  · exact hcount
  · split
    · exact hcount.of_leaves (by simp)
    · exact hcount.admitEgress _ _

theorem lookupRing (c : RawCell) (h : s.PoolLaws) : (s.lookupRing c).PoolLaws := by
  simp only [State.lookupRing]
  split
  · exact h.unknownLabel _ _
  · next i _ =>
    split
    · exact h.of_leaves (by simp)
    · split
      · exact (h.of_leaves (t := s.countStream i .arrived) ⟨rfl, rfl, rfl⟩).applyAction i _ c
      · exact h.applyAction i _ c

theorem sortCell (c : RawCell) (h : s.PoolLaws) : (s.sortCell c).PoolLaws := by
  simp only [State.sortCell]
  split
  case h_2 => exact h.lookupRing c
  case h_3 => exact (h.of_leaves (t := s.markSource _) (by simp [State.markSource])).lookupRing c
  all_goals exact h.of_leaves (by simp)

theorem arriveLocal (c : RawCell) (h : s.PoolLaws) : (s.arriveLocal c).PoolLaws := by
  simp only [State.arriveLocal]
  split
  · exact h.of_leaves (by simp)
  · split
    · exact h.of_leaves (by simp)
    · next i _ =>
      split
      · exact h.of_leaves (by simp)
      · split
        · exact (h.of_leaves (t := s.countStream i .arrived) ⟨rfl, rfl, rfl⟩).policeAndAdmit i _ _ _
        · exact h.of_leaves (by simp)

end State.PoolLaws

theorem handOn_keepsPoolLaws (p : Payload) : KeepsPoolLaws (State.handOn p) := fun s h => by
  unfold State.handOn
  split
  · exact h
  · exact State.PoolLaws.sortCell _ (h.of_leaves ⟨rfl, rfl, rfl⟩)

theorem localArrival_keepsPoolLaws : KeepsPoolLaws State.localArrival := fun s h => by
  unfold State.localArrival
  split
  · exact h
  · exact State.PoolLaws.arriveLocal _ (h.of_leaves ⟨rfl, rfl, rfl⟩)

/-- R53, R64: the eighth word taken moves the buffer of the drop queue's head to the free list. -/
theorem takeDrop_keepsPoolLaws : KeepsPoolLaws fun s => s.takeDrop.portEdge := fun s h => by
  refine State.PoolLaws.of_leaves (s := s.takeDrop) ?_ ⟨rfl, rfl, rfl⟩
  simp only [State.takeDrop]
  split
  · exact h
  · next c rest hdrop =>
    split
    · exact h.of_leaves ⟨rfl, rfl, rfl⟩
    · have hheld := h.buffers
      obtain ⟨hqueues, hlimit, hmax⟩ := h.limits
      rw [hdrop, List.length_cons] at hlimit
      refine ⟨?_, hqueues, (Nat.le_succ _).trans hlimit, hmax⟩
      show s.pool.free + 1 + s.depths + rest.length + s.poolInTx = _
      rw [State.LawL1, hdrop, List.length_cons] at hheld
      omega

/-! ### The slot (R75 to R81, R84) -/

namespace State.PoolLaws

variable {s : State} {x : Option TxCell}

/-- R53, R79: a purge moves the buffer of a queue's head to the free list. -/
theorem purgeOne {q : Fin 8} {c : QueuedCell} {rest : List QueuedCell} (h : (s.carrying x).PoolLaws)
    (hc : (s.queue q).cells = c :: rest) : ((s.purgeOne q c rest).carrying x).PoolLaws := by
  have hpool := s.purgeOne_pool q rest c
  have hq : ((s.purgeOne q c rest).carrying x).queue q = { s.queue q with cells := rest } := s.purgeOne_queue_self q rest c
  have hdepth : (s.queue q).depth = rest.length + 1 := congrArg List.length hc
  refine h.of_one_queue (q := q) (fun p hp => s.purgeOne_queue_ne q rest c hp) ?_ (congrArg Pool.drop hpool :)
    (by simp) ?_
  · rw [hq]
    exact (h.limits.1 q).shrink (hdepth ▸ Nat.le_succ _)
  · rw [hq]
    show (s.purgeOne q c rest).pool.free + rest.length + (s.carrying x).poolInTx =
      s.pool.free + (s.queue q).depth + (s.carrying x).poolInTx
    rw [hpool, hdepth]
    simp only
    omega

theorem consult (q : Fin 8) (h : (s.carrying x).PoolLaws) : ((s.consult q).carrying x).PoolLaws := by
  have hpurge (cs : List QueuedCell) (t : State) (ht : (t.carrying x).PoolLaws) (hcs : (t.queue q).cells = cs) :
      ((purgeFrom q cs t).carrying x).PoolLaws := by
    induction cs generalizing t with
    | nil => exact ht
    | cons c cs ih =>
      unfold purgeFrom
      split
      · exact ih _ (ht.purgeOne hcs) (by rw [State.purgeOne_queue_self])
      · exact ht
  exact hpurge _ s h rfl

/-- R80: a head that is taken becomes the cell in transmission, and keeps its buffer. -/
theorem takeHead (q : Fin 8) (h : (s.carrying none).PoolLaws) :
    ((s.takeHead q).2.carrying (s.takeHead q).1).PoolLaws := by
  rcases s.takeHead_cases q with ⟨-, he⟩ | ⟨c, rest, hc, he⟩
  · rwa [he]
  · rw [he]
    have hpool := s.dequeued_pool q c rest
    have hq : ((s.dequeued q c rest).carrying (some (.pool c q))).queue q = { s.queue q with cells := rest } :=
      s.dequeued_queue_self q c rest
    have hdepth : (s.queue q).depth = rest.length + 1 := congrArg List.length hc
    refine h.of_one_queue (q := q) (t := (s.dequeued q c rest).carrying (some (.pool c q)))
      (fun p hp => s.dequeued_queue_ne c rest hp) ?_ (congrArg Pool.drop hpool :) (by simp [State.dequeued]) ?_
    · rw [hq]
      exact (h.limits.1 q).shrink (hdepth ▸ Nat.le_succ _)
    · rw [hq]
      show (s.dequeued q c rest).pool.free + rest.length + 1 = s.pool.free + (s.queue q).depth + 0
      rw [hpool, hdepth]
      rfl

/-- R81: a control cell has no buffer of the pool. -/
theorem takeControl (h : (s.carrying none).PoolLaws) : (s.takeControl.2.carrying s.takeControl.1).PoolLaws := by
  rcases s.takeControl_cases with ⟨-, he⟩ | ⟨c, rest, -, he⟩ <;> rw [he]
  · exact h
  · exact h.of_frame rfl rfl rfl

theorem fillFrom (qs : List (Fin 8)) (h : (s.carrying none).PoolLaws) :
    ((fillFrom qs s).2.carrying (fillFrom qs s).1).PoolLaws := by
  induction qs generalizing s with
  | nil => exact h
  | cons q qs ih =>
    unfold Machine.fillFrom
    have ht := takeHead q (h.consult q)
    split
    · split
      · next hr => rwa [hr] at ht
      · next hr =>
        rw [hr] at ht
        exact ih ht
    · exact ih h

theorem choose (e : CalEntry) (h : (s.carrying none).PoolLaws) : ((s.choose e).2.carrying (s.choose e).1).PoolLaws := by
  unfold State.choose
  have hctl := h.takeControl
  split
  · exact takeHead e.queue (h.consult e.queue)
  · split
    · next hr => rwa [hr] at hctl
    · next t hr =>
      rw [hr] at hctl
      have hhead := takeHead e.queue (hctl.consult e.queue)
      split
      · next hr' => rwa [hr'] at hhead
      · next hr' =>
        rw [hr'] at hhead
        exact hhead.fillFrom fillOrder
  · split
    · next hr => rwa [hr] at hctl
    · next t hr =>
      rw [hr] at hctl
      exact hctl.fillFrom fillOrder

/-- R75, R105: the cell chosen is the cell in transmission, and an IDLE cell where there is no choice. -/
theorem advance_transmit {c : Option TxCell} (h : (s.carrying c).PoolLaws) : (s.advance.transmit (c.getD .idle)).PoolLaws := by
  obtain ⟨flags, hadvance, -⟩ := s.advance_parts
  rw [hadvance]
  exact h.of_frame rfl (by cases c <;> rfl) rfl

/-- R53, R84: a completed pool cell gives its buffer back. -/
theorem finishTx {c : TxCell} (h : s.PoolLaws) (hc : s.cal.inTx = some c) : (s.finishTx c).PoolLaws := by
  have htx : s.poolInTx = (s.carrying (some c)).poolInTx := by rw [← hc, State.carrying_inTx]
  have hheld := h.buffers
  cases c with
  | pool c q =>
    refine ⟨?_, h.limits⟩
    show s.pool.free + 1 + s.depths + s.pool.drop.length + 0 = _
    rw [State.LawL1, htx] at hheld
    rw [← hheld]
    show _ = s.pool.free + s.depths + s.pool.drop.length + 1
    omega
  | control k =>
    simp only [State.finishTx]
    split <;> exact h.of_frame rfl htx.symm rfl
  | idle => exact h.of_frame rfl htx.symm rfl

end State.PoolLaws

theorem slotEvent_keepsPoolLaws : KeepsPoolLaws State.slotEvent := fun s h => by
  unfold State.slotEvent
  split
  · exact h
  · next hnone =>
    refine State.PoolLaws.advance_transmit (State.PoolLaws.choose _ ?_)
    rw [State.slotSource_eq, State.countSlot_eq]
    exact h.of_leaves ⟨rfl, hnone.symm, rfl⟩

theorem State.finishTx_inTx (s : State) (c : TxCell) : (s.finishTx c).cal.inTx = none := by
  cases c with
  | pool c q => rfl
  | control k =>
    simp only [State.finishTx]
    split <;> rfl
  | idle => rfl

/-- R71, R93: a restart flushes the queues, and takes effect between two cells. -/
theorem State.PoolLaws.restartTraffic {s : State} (h : s.PoolLaws) (hnone : s.cal.inTx = none) : s.restartTraffic.PoolLaws := by
  have hcal : s.restartTraffic.cal = s.cal.restarted ∧ s.restartTraffic.settings = s.settings := by
    simp only [State.restartTraffic]
    split <;> split <;> simp
  refine h.of_flush s.restartTraffic_frame.2 ?_ hcal.2
  rw [hcal.1, Calendar.restarted_eq]
  exact hnone

theorem completeSlot_keepsPoolLaws (straps : BitVec 6) : KeepsPoolLaws (State.completeSlot straps) := fun s h => by
  unfold State.completeSlot
  split
  · exact h
  · next c hc =>
    split
    · exact h.finishTx hc
    · exact (h.finishTx hc).restartTraffic (s.finishTx_inTx c)
    · exact .of_powerOn rfl rfl rfl

end Sys2Proof.Machine
end

section
/-! PROOF. Every command and the step keep laws L1 and L2. -/

namespace Sys2Proof.Machine

-- One proof body at a time: each thread reserves memory, and the whole text as one file comes close to the limit of the check.
set_option Elab.async false

/-! ### Events that leave the pool, the cell in transmission and the settings as they were -/

theorem State.LeavesPool.refl (s : State) : s.LeavesPool s := ⟨rfl, rfl, rfl⟩

theorem State.LeavesPool.trans {s t u : State} (h : s.LeavesPool t) (h' : t.LeavesPool u) : s.LeavesPool u := by
  obtain ⟨hpool, htx, hsettings⟩ := h
  obtain ⟨hpool', htx', hsettings'⟩ := h'
  exact ⟨hpool'.trans hpool, htx'.trans htx, hsettings'.trans hsettings⟩

theorem KeepsPoolLaws.edge_of_leaves {f : State → State} (hf : ∀ s : State, s.LeavesPool (f s)) :
    KeepsPoolLaws fun s => (f s).portEdge := .of_leaves hf

theorem hand_leavesPool (s : State) (f : EventFlag) : s.LeavesPool (s.hand f) := by simp

theorem huntByte_leavesPool (b : Byte) (s : State) : s.LeavesPool (State.huntByte b s) := by
  unfold State.huntByte
  split <;> exact ⟨rfl, rfl, rfl⟩

theorem testHeader_leavesPool (w : Word) (s : State) : s.LeavesPool (State.testHeader w s) := by
  unfold State.testHeader
  split
  · split
    · exact .refl s
    · split
      · unfold State.presyncGood
        split <;> simp
      · exact ⟨rfl, rfl, rfl⟩
    · split
      · exact ⟨rfl, rfl, rfl⟩
      · unfold State.syncBad
        split <;> simp
  · exact .refl s

theorem sourceAt_leavesPool (s : State) (o : Origin) (m : Fin 128) : s.LeavesPool (s.sourceAt o m) := by
  simp only [State.sourceAt]
  split
  · split <;> simp [State.expireMeter]
  · exact .refl s

theorem takeSourceEvent_leavesPool (p : Origin → Bool) (m : Option (Fin 128)) (s : State) :
    s.LeavesPool (State.takeSourceEvent p m s) := by
  unfold State.takeSourceEvent
  split
  · exact .refl s
  · exact List.foldlRecOn _ _ ⟨rfl, rfl, rfl⟩ fun t ht m _ => ht.trans (sourceAt_leavesPool t _ m)

theorem takeSourceOperand_leavesPool (p : Origin → Bool) (m : Option Nat) (s : State) :
    s.LeavesPool (State.takeSourceOperand p m s) := by
  unfold State.takeSourceOperand
  split
  · exact takeSourceEvent_leavesPool p _ s
  · split
    · exact .refl s
    · exact takeSourceEvent_leavesPool p _ s

theorem takeExpiry_leavesPool (m : Nat) (s : State) : s.LeavesPool (State.takeExpiry m s) := by
  unfold State.takeExpiry
  split
  · exact .refl s
  · simp only
    split
    · exact takeSourceEvent_leavesPool _ _ s
    · exact .refl s

theorem cutOpen_leavesPool (s : State) : s.LeavesPool s.cutOpen := by
  unfold State.cutOpen
  split <;> simp [State.setOpen]

theorem addFirst_leavesPool (w : Word) (s : State) : s.LeavesPool (State.addFirst w s) := by
  simp only [State.addFirst]
  split <;> exact (cutOpen_leavesPool s).trans ⟨rfl, rfl, rfl⟩

theorem addContinue_leavesPool (w : Word) (s : State) : s.LeavesPool (State.addContinue w s) := by
  simp only [State.addContinue]
  split
  · simp
  · split <;> simp [State.setOpen]
  · split <;> simp [State.setOpen]

theorem teardown_leavesPool (s : State) (i : Fin 4) : s.LeavesPool (s.teardown i) := by simp

theorem sessionTick_leavesPool (s : State) : s.LeavesPool s.sessionTick := by
  unfold State.sessionTick State.expireSessions
  split
  · exact ⟨rfl, rfl, rfl⟩
  · refine .trans ?_ (hand_leavesPool _ _)
    exact List.foldlRecOn (motive := s.LeavesPool) _ _ ⟨rfl, rfl, rfl⟩ fun t ht i _ => ht.trans (teardown_leavesPool t i)

theorem takeSessionTick_leavesPool (s : State) : s.LeavesPool s.takeSessionTick := by
  unfold State.takeSessionTick
  split
  · exact .refl s
  · exact sessionTick_leavesPool s

theorem takeSessionExpiry_leavesPool (s : State) : s.LeavesPool s.takeSessionExpiry := by
  unfold State.takeSessionExpiry
  split
  · exact .refl s
  · split
    · exact .refl s
    · exact sessionTick_leavesPool s

theorem takeEventTick_leavesPool (s : State) : s.LeavesPool s.takeEventTick := by
  unfold State.takeEventTick
  split <;> exact ⟨rfl, rfl, rfl⟩

theorem takeTimeout_leavesPool (s : State) : s.LeavesPool s.takeTimeout := by
  unfold State.takeTimeout
  split
  · exact .refl s
  · split <;> exact ⟨rfl, rfl, rfl⟩

theorem setFlag_leavesPool (f : EventFlag) (s : State) : s.LeavesPool (s.setFlag f) := by
  unfold State.setFlag
  split <;> exact ⟨rfl, rfl, rfl⟩

theorem buildReport_leavesPool (s : State) : s.LeavesPool s.buildReport := by
  unfold State.buildReport
  split
  · exact .refl s
  · split <;> exact ⟨rfl, rfl, rfl⟩

theorem issueReport_leavesPool (s : State) : s.LeavesPool s.issueReport := by
  unfold State.issueReport
  split
  · exact .refl s
  · split <;> exact ⟨rfl, rfl, rfl⟩

theorem sendingComplete_leavesPool (s : State) : s.LeavesPool s.sendingComplete := by
  unfold State.sendingComplete
  split <;> exact ⟨rfl, rfl, rfl⟩

theorem releasePin_leavesPool (straps : BitVec 6) (s : State) : s.LeavesPool (s.releasePin straps) := by
  unfold State.releasePin
  split <;> exact ⟨rfl, rfl, rfl⟩

/-! ### The execution of an intake command (R126, R128) -/

/-- R126: an execution keeps the laws where the steps after step 1 of R128 do. -/
theorem KeepsPoolLaws.execution {op : Option Op} {body : Control → State → State} (hb : ∀ c, KeepsPoolLaws (body c)) :
    KeepsPoolLaws (execution op body) := fun s h => by
  rcases execution_cases op body s with he | ⟨k, rest, -, -, he | ⟨-, he⟩⟩
  · rwa [he]
  · rw [he]
    exact h.of_leaves ⟨rfl, rfl, rfl⟩
  · rw [he]
    exact hb _ _ (h.of_leaves ⟨rfl, rfl, rfl⟩)

theorem cacheReply_leavesPool (s : State) (i : Fin 4) (k : ControlCell) : s.LeavesPool (s.cacheReply i k) := by
  unfold State.cacheReply
  split <;> exact ⟨rfl, rfl, rfl⟩

theorem advanceSeq_leavesPool (s : State) (i : Fin 4) (n : Byte) : s.LeavesPool (s.advanceSeq i n) := by
  unfold State.advanceSeq
  split <;> exact ⟨rfl, rfl, rfl⟩

theorem restartIdle_leavesPool (s : State) (i : Fin 4) : s.LeavesPool (s.restartIdle i) := by simp

/-- R128: the reply to a command touches neither the pool nor the settings. -/
theorem conclude_leavesPool (s : State) (c : Control) (i : Fin 4) (d : Done) : d.state.LeavesPool (s.conclude c i d) :=
  cacheReply_leavesPool d.state i (s.replyCell c d.reply)

/-- R128, steps 4 to 8: a command reaches the pool and the settings by its own part alone. -/
theorem inSession_leavesPool (claim : Control → Bool) (own : Control → Fin 4 → State → Done) (c : Control) (s : State) :
    s.LeavesPool (inSession claim own c s)
      ∨ ∃ i t, s.LeavesPool t ∧ (own c i t).state.LeavesPool (inSession claim own c s) := by
  unfold inSession
  split
  · exact .inl ⟨rfl, rfl, rfl⟩
  · next i _ =>
    have hidle := restartIdle_leavesPool s i
    simp only
    split
    · exact .inl hidle
    · split
      · have hseq := hidle.trans (advanceSeq_leavesPool _ i c.seq)
        split
        · exact .inl (hseq.trans (conclude_leavesPool _ c i (Done.same _ _)))
        · exact .inr ⟨i, _, hseq, conclude_leavesPool _ c i _⟩
      · split <;> exact .inl (hidle.trans ⟨rfl, rfl, rfl⟩)

/-- An intake command whose own part keeps the laws keeps them. -/
theorem intake_keepsPoolLaws {op : Option Op} {claim : Control → Bool} {own : Control → Fin 4 → State → Done}
    (ho : ∀ c i s, s.PoolLaws → (own c i s).state.PoolLaws) : KeepsPoolLaws (live (execution op (inSession claim own))) :=
  .live <| .execution fun c s h => by
    rcases inSession_leavesPool claim own c s with hs | ⟨i, t, ht, hs⟩
    · exact h.of_leaves hs
    · exact (ho c i t (h.of_leaves ht)).of_leaves hs

/-- The same for an intake command whose own part reaches neither the pool nor the settings. -/
theorem offPool_keepsPoolLaws {op : Option Op} {claim : Control → Bool} {own : Control → Fin 4 → State → Done}
    (ho : ∀ c i (s : State), s.LeavesPool (own c i s).state) : KeepsPoolLaws (live (execution op (inSession claim own))) :=
  intake_keepsPoolLaws fun c i s h => h.of_leaves (ho c i s)

/-- The same for an intake command that changes nothing of its own. -/
theorem unchanged_keepsPoolLaws {op : Option Op} {claim : Control → Bool} {own : Control → Fin 4 → State → Done}
    (ho : ∀ c i s, (own c i s).state = s) : KeepsPoolLaws (live (execution op (inSession claim own))) :=
  offPool_keepsPoolLaws fun c i s => by
    rw [ho]
    exact .refl s

/-! ### The own parts of the intake commands -/

theorem Calendar.setShadow_inTx (x : Calendar) (b : Bank) : (x.setShadow b).inTx = x.inTx := by
  unfold Calendar.setShadow
  split <;> rfl

section
variable (c : Control) (i : Fin 4) (s : State)

theorem ownCalWrite_leavesPool : s.LeavesPool (ownCalWrite c i s).state := by
  unfold ownCalWrite
  split
  · split
    · exact .refl s
    · split
      · exact .refl s
      · exact ⟨rfl, Calendar.setShadow_inTx _ _, rfl⟩
  · exact .refl s

theorem ownCalLength_leavesPool : s.LeavesPool (ownCalLength c i s).state := by
  unfold ownCalLength
  split
  · split
    · exact .refl s
    · exact ⟨rfl, Calendar.setShadow_inTx _ _, rfl⟩
  · exact .refl s

theorem ownCalCopy_leavesPool : s.LeavesPool (ownCalCopy c i s).state := by
  unfold ownCalCopy
  split
  · exact .refl s
  · exact ⟨rfl, Calendar.setShadow_inTx _ _, rfl⟩

theorem ownCalCommit_leavesPool : s.LeavesPool (ownCalCommit c i s).state := by
  unfold ownCalCommit
  split
  · exact .refl s
  · split <;> exact ⟨rfl, rfl, rfl⟩

theorem ownCalCancel_leavesPool : s.LeavesPool (ownCalCancel c i s).state := by
  unfold ownCalCancel
  split <;> exact ⟨rfl, rfl, rfl⟩

theorem ownEventClear_leavesPool : s.LeavesPool (ownEventClear c i s).state := by
  unfold ownEventClear
  split <;> exact ⟨rfl, rfl, rfl⟩

theorem ownReportAck_leavesPool : s.LeavesPool (ownReportAck c i s).state := by
  simp only [ownReportAck]
  split_ifs <;> exact ⟨rfl, rfl, rfl⟩

theorem ownReportRearm_leavesPool : s.LeavesPool (ownReportRearm c i s).state := by
  unfold ownReportRearm
  split_ifs <;> exact ⟨rfl, rfl, rfl⟩

theorem writeMeter_leavesPool (m : Fin 128) (x : Meter) : s.LeavesPool (s.writeMeter m x) := by
  rw [State.writeMeter_eq (s := s) rfl]
  exact ⟨rfl, rfl, rfl⟩

theorem ownMeterSet_leavesPool : s.LeavesPool (ownMeterSet c i s).state := by
  unfold ownMeterSet
  split
  · exact .refl s
  · split
    · exact .refl s
    · split_ifs
      · exact .refl s
      · exact .refl s
      · exact writeMeter_leavesPool s _ _

theorem setRunState_leavesPool (running : Bool) : s.LeavesPool (setRunState running c s).state := by
  unfold setRunState
  split
  · exact .refl s
  · rw [State.setRunning_eq running _ (u := s) rfl]
    exact ⟨rfl, rfl, rfl⟩

theorem ownMeterReload_leavesPool : s.LeavesPool (ownMeterReload c i s).state := by
  unfold ownMeterReload
  split <;> exact ⟨rfl, rfl, rfl⟩

theorem ownClose_leavesPool : s.LeavesPool (ownClose c i s).state := teardown_leavesPool s i

theorem ownClaim_leavesPool : s.LeavesPool (ownClaim c i s).state := by
  unfold ownClaim
  split
  · exact ⟨rfl, rfl, rfl⟩
  · split <;> exact .refl s

theorem ownRelease_leavesPool : s.LeavesPool (ownRelease c i s).state := by
  unfold ownRelease
  split <;> exact ⟨rfl, rfl, rfl⟩

theorem ownRestart_leavesPool : s.LeavesPool (ownRestart c i s).state := by
  unfold ownRestart
  split <;> exact ⟨rfl, rfl, rfl⟩

theorem ownStreamAdd_leavesPool : s.LeavesPool (ownStreamAdd c i s).state := by
  unfold ownStreamAdd
  split
  · exact .refl s
  · split
    · exact .refl s
    · split <;> exact ⟨rfl, rfl, rfl⟩

theorem ownStreamSet_leavesPool : s.LeavesPool (ownStreamSet c i s).state := by
  unfold ownStreamSet
  split
  · exact .refl s
  · simp only
    split
    · exact .refl s
    · exact .refl s
    · split
      · exact .refl s
      · split <;> exact ⟨rfl, rfl, rfl⟩

theorem ownStreamRemove_leavesPool : s.LeavesPool (ownStreamRemove c i s).state := by
  unfold ownStreamRemove
  split
  · exact .refl s
  · simp only
    split
    · exact .refl s
    · exact .refl s
    · split <;> simp

theorem ownSnapTake_leavesPool : s.LeavesPool (ownSnapTake c i s).state := by
  unfold ownSnapTake
  split
  · exact .refl s
  · split
    · exact .refl s
    · split <;> exact ⟨rfl, rfl, rfl⟩

theorem ownSnapRelease_leavesPool : s.LeavesPool (ownSnapRelease c i s).state := by
  unfold ownSnapRelease
  split
  · exact .refl s
  · split <;> exact ⟨rfl, rfl, rfl⟩

end

theorem bodyDiscover_leavesPool (c : Control) (s : State) : s.LeavesPool (bodyDiscover c s) := by
  simp only [bodyDiscover, State.sendReply]
  split <;> simp

theorem bodyOpen_leavesPool (c : Control) (s : State) : s.LeavesPool (bodyOpen c s) := by
  unfold bodyOpen
  split
  · split
    · exact .refl s
    · split <;> simp [State.resend, State.sendReply, State.newSession]
  · split <;> exact ⟨rfl, rfl, rfl⟩

/-! ### SET and QUEUE-SET (R65, R66) -/

/-- R142: SET keeps the *drop limit* within 512, and changes it under its own name alone. -/
theorem setSetting_dropLimit {x y : Settings} {name : SettingName} {w : Word} (h : setSetting x name w = some y) :
    (name = .dropLimit ∧ y.dropLimit ≤ 512) ∨ y.dropLimit = x.dropLimit := by
  cases name with
  | dropLimit =>
    obtain ⟨hw, he⟩ := Option.ite_none_right_eq_some.1 h
    cases he
    simp only [inRange, Bool.and_eq_true, decide_eq_true_eq] at hw
    exact .inl ⟨rfl, hw.2⟩
  | unknownPolicy =>
    simp only [setSetting] at h
    split at h
    · cases h
      exact .inr rfl
    · obtain ⟨-, he⟩ := Option.ite_none_right_eq_some.1 h
      cases he
      exact .inr rfl
  | unknownQueue | reportTarget =>
    obtain ⟨_, -, rfl⟩ := Option.map_eq_some_iff.1 h
    exact .inr rfl
  | reportMask | reportTimeout | reportRetries | sessionTimeout | controlHop =>
    obtain ⟨-, he⟩ := Option.ite_none_right_eq_some.1 h
    cases he
    exact .inr rfl

/-- R65: a *drop limit* is not set below the drop queue's depth. -/
theorem ownSet_poolLaws {c : Control} {i : Fin 4} {s : State} (h : s.PoolLaws) : (ownSet c i s).state.PoolLaws := by
  unfold ownSet
  split
  · exact h
  · next name _ =>
    split
    · exact h
    · next y hy =>
      split
      · exact h
      · next hdeep =>
        obtain ⟨hqueues, hlimit⟩ := h.limits
        refine ⟨h.buffers, hqueues, ?_⟩
        rcases setSetting_dropLimit hy with ⟨rfl, hmax⟩ | hsame
        · exact ⟨Nat.not_lt.1 fun hlt => hdeep ⟨rfl, hlt⟩, hmax⟩
        · show s.pool.drop.length ≤ y.dropLimit ∧ y.dropLimit ≤ 512
          rwa [hsame]

/-- R66: QUEUE-SET leaves a queue whose DE threshold is within its limit, and its limit within 512. -/
theorem EgressQueue.changed_bounded {x y : EgressQueue} {arg : Byte} {f : QueueFields} (h : x.Bounded)
    (hy : x.changed arg f = some y) (hroom : arg.getLsbD 0 = true → y.depth ≤ y.limit) : y.Bounded := by
  obtain ⟨hdepth, hthreshold, hlimit⟩ := h
  obtain ⟨hok, fill, -, rfl⟩ := changed_eq_some.1 hy
  have hnew : x.newLimit arg f ≤ 512 := by
    by_cases hk : arg.getLsbD 0 = true
    · exact (newLimit_named hk).trans_le (Nat.not_lt.1 fun hbad => hok (.inl ⟨hk, hbad⟩))
    · exact (if_neg hk).trans_le hlimit
  refine ⟨?_, ?_, hnew⟩
  · by_cases hk : arg.getLsbD 0 = true
    · exact hroom hk
    · exact hdepth.trans_eq (if_neg hk).symm
  · show (if arg.getLsbD 1 then f.deThreshold
      else if arg.getLsbD 0 then min x.deThreshold (x.newLimit arg f) else x.deThreshold) ≤ x.newLimit arg f
    split
    · next hk => exact Nat.not_lt.1 fun hbad => hok (.inr (.inl ⟨hk, .inr hbad⟩))
    · split
      · exact Nat.min_le_right _ _
      · next hk => exact hthreshold.trans_eq (if_neg hk).symm

theorem ownQueueSet_poolLaws {c : Control} {i : Fin 4} {s : State} (h : s.PoolLaws) : (ownQueueSet c i s).state.PoolLaws := by
  unfold ownQueueSet
  split
  · exact h
  · next q _ =>
    split
    · exact h
    · next y hy =>
      split
      · exact h
      · next hdeep =>
        obtain ⟨hqueues, -⟩ := h.limits
        have hq : (s.setQueue q y).queue q = y := s.queue_setQueue_self q y
        have hdepth : y.depth = (s.queue q).depth := congrArg List.length (EgressQueue.changed_cells hy)
        refine h.of_one_queue (q := q) (fun p hp => s.queue_setQueue_ne y hp) ?_ rfl rfl ?_
        · rw [hq]
          exact EgressQueue.changed_bounded (hqueues q) hy fun hk => Nat.not_lt.1 fun hlt => hdeep ⟨hk, hlt⟩
        · rw [hq, hdepth]
          rfl

/-! ### Every command, and the step -/

/-- R51, R55: every command keeps laws L1 and L2. -/
theorem exec_keepsPoolLaws (c : Instr) (s : State) (h : s.PoolLaws) : ∃ t, exec c s = .next t ∧ t.PoolLaws :=
  match c with
  | .powerOn => ⟨_, rfl, .of_powerOn rfl rfl rfl⟩
  | .resetPinRelease straps => ⟨_, rfl, h.of_leaves (releasePin_leavesPool straps s)⟩
  | .huntWindowTest b => ⟨_, rfl, (KeepsPoolLaws.of_leaves (huntByte_leavesPool b)).live s h⟩
  | .headerTest w => ⟨_, rfl, (KeepsPoolLaws.of_leaves (testHeader_leavesPool w)).live s h⟩
  | .ringCellArrival p => ⟨_, rfl, (handOn_keepsPoolLaws p).live s h⟩
  | .slotSourceEvent m => ⟨_, rfl, (KeepsPoolLaws.of_leaves (takeSourceOperand_leavesPool _ m)).live s h⟩
  | .markSourceEvent _ m => ⟨_, rfl, (KeepsPoolLaws.of_leaves (takeSourceOperand_leavesPool _ m)).live s h⟩
  | .cascadeSourceEvent _ m => ⟨_, rfl, (KeepsPoolLaws.of_leaves (takeSourceOperand_leavesPool _ m)).live s h⟩
  | .meterExpiry m => ⟨_, rfl, (KeepsPoolLaws.of_leaves (takeExpiry_leavesPool m)).live s h⟩
  | .addWordFirst w => ⟨_, rfl, (KeepsPoolLaws.edge_of_leaves (addFirst_leavesPool w)).live s h⟩
  | .addWordContinue w => ⟨_, rfl, (KeepsPoolLaws.edge_of_leaves (addContinue_leavesPool w)).live s h⟩
  | .localCellArrival => ⟨_, rfl, localArrival_keepsPoolLaws.live s h⟩
  | .dropTake => ⟨_, rfl, takeDrop_keepsPoolLaws.live s h⟩
  | .slotEvent => ⟨_, rfl, slotEvent_keepsPoolLaws.live s h⟩
  | .sessionTick => ⟨_, rfl, (KeepsPoolLaws.of_leaves takeSessionTick_leavesPool).live s h⟩
  | .sessionExpiry => ⟨_, rfl, (KeepsPoolLaws.of_leaves takeSessionExpiry_leavesPool).live s h⟩
  | .eventUnitTick => ⟨_, rfl, (KeepsPoolLaws.of_leaves takeEventTick_leavesPool).live s h⟩
  | .reportTimeout => ⟨_, rfl, (KeepsPoolLaws.of_leaves takeTimeout_leavesPool).live s h⟩
  | .slotCompletion straps => ⟨_, rfl, (completeSlot_keepsPoolLaws straps).live s h⟩
  | .reportSendingComplete => ⟨_, rfl, (KeepsPoolLaws.of_leaves sendingComplete_leavesPool).live s h⟩
  | .eventFlagSet f => ⟨_, rfl, by
      split
      · exact h
      · exact h.of_leaves (setFlag_leavesPool f s)⟩
  | .reportBuild => ⟨_, rfl, (KeepsPoolLaws.of_leaves buildReport_leavesPool).live s h⟩
  | .reportIssue => ⟨_, rfl, (KeepsPoolLaws.of_leaves issueReport_leavesPool).live s h⟩
  | .badOp => ⟨_, rfl, unchanged_keepsPoolLaws (fun _ _ _ => rfl) s h⟩
  | .discover => ⟨_, rfl, (KeepsPoolLaws.execution fun c => .of_leaves (bodyDiscover_leavesPool c)).live s h⟩
  | .openSession => ⟨_, rfl, (KeepsPoolLaws.execution fun c => .of_leaves (bodyOpen_leavesPool c)).live s h⟩
  | .closeSession => ⟨_, rfl, offPool_keepsPoolLaws ownClose_leavesPool s h⟩
  | .ping => ⟨_, rfl, unchanged_keepsPoolLaws (fun _ _ _ => rfl) s h⟩
  | .claim => ⟨_, rfl, offPool_keepsPoolLaws ownClaim_leavesPool s h⟩
  | .release => ⟨_, rfl, offPool_keepsPoolLaws ownRelease_leavesPool s h⟩
  | .set => ⟨_, rfl, intake_keepsPoolLaws (fun _ _ _ => ownSet_poolLaws) s h⟩
  | .get => ⟨_, rfl, unchanged_keepsPoolLaws ownGet_state s h⟩
  | .status => ⟨_, rfl, unchanged_keepsPoolLaws (fun _ _ _ => rfl) s h⟩
  | .restart => ⟨_, rfl, offPool_keepsPoolLaws ownRestart_leavesPool s h⟩
  | .streamAdd => ⟨_, rfl, offPool_keepsPoolLaws ownStreamAdd_leavesPool s h⟩
  | .streamSet => ⟨_, rfl, offPool_keepsPoolLaws ownStreamSet_leavesPool s h⟩
  | .streamRemove => ⟨_, rfl, offPool_keepsPoolLaws ownStreamRemove_leavesPool s h⟩
  | .streamRead => ⟨_, rfl, unchanged_keepsPoolLaws ownStreamRead_state s h⟩
  | .streamFind => ⟨_, rfl, unchanged_keepsPoolLaws ownStreamFind_state s h⟩
  | .meterSet => ⟨_, rfl, offPool_keepsPoolLaws ownMeterSet_leavesPool s h⟩
  | .meterRead => ⟨_, rfl, unchanged_keepsPoolLaws ownMeterRead_state s h⟩
  | .meterHold => ⟨_, rfl, offPool_keepsPoolLaws (fun c _ s => setRunState_leavesPool c s false) s h⟩
  | .meterRun => ⟨_, rfl, offPool_keepsPoolLaws (fun c _ s => setRunState_leavesPool c s true) s h⟩
  | .meterReload => ⟨_, rfl, offPool_keepsPoolLaws ownMeterReload_leavesPool s h⟩
  | .queueSet => ⟨_, rfl, intake_keepsPoolLaws (fun _ _ _ => ownQueueSet_poolLaws) s h⟩
  | .queueRead => ⟨_, rfl, unchanged_keepsPoolLaws ownQueueRead_state s h⟩
  | .calWrite => ⟨_, rfl, offPool_keepsPoolLaws ownCalWrite_leavesPool s h⟩
  | .calLength => ⟨_, rfl, offPool_keepsPoolLaws ownCalLength_leavesPool s h⟩
  | .calCopy => ⟨_, rfl, offPool_keepsPoolLaws ownCalCopy_leavesPool s h⟩
  | .calRead => ⟨_, rfl, unchanged_keepsPoolLaws ownCalRead_state s h⟩
  | .calCommit => ⟨_, rfl, offPool_keepsPoolLaws ownCalCommit_leavesPool s h⟩
  | .calCancel => ⟨_, rfl, offPool_keepsPoolLaws ownCalCancel_leavesPool s h⟩
  | .snapTake => ⟨_, rfl, offPool_keepsPoolLaws ownSnapTake_leavesPool s h⟩
  | .snapRead => ⟨_, rfl, unchanged_keepsPoolLaws ownSnapRead_state s h⟩
  | .snapRelease => ⟨_, rfl, offPool_keepsPoolLaws ownSnapRelease_leavesPool s h⟩
  | .eventRead => ⟨_, rfl, unchanged_keepsPoolLaws (fun _ _ _ => rfl) s h⟩
  | .eventClear => ⟨_, rfl, offPool_keepsPoolLaws ownEventClear_leavesPool s h⟩
  | .reportAck => ⟨_, rfl, offPool_keepsPoolLaws ownReportAck_leavesPool s h⟩
  | .reportRearm => ⟨_, rfl, offPool_keepsPoolLaws ownReportRearm_leavesPool s h⟩

/-- A step keeps laws L1 and L2: the command at the front of the queue does, and so does an edge of LCLK. -/
theorem step_keepsPoolLaws {s t : State} (h : s.PoolLaws) (hstep : step s = .next t) : t.PoolLaws := by
  unfold step at hstep
  split at hstep
  · cases hstep
    exact h.of_leaves ⟨rfl, rfl, rfl⟩
  · next c rest _ =>
    obtain ⟨u, hu, hlaws⟩ := exec_keepsPoolLaws c { s with pending := rest } (h.of_leaves ⟨rfl, rfl, rfl⟩)
    cases hu.symm.trans hstep
    exact hlaws

/-- Settles O56: the two laws together are the invariant `State.PoolLaws`. -/
theorem poolLawsKept : Obligations.PoolLawsKept := by
  intro s t buffers limits hstep
  obtain ⟨buffers, limits⟩ := step_keepsPoolLaws ⟨buffers, limits⟩ hstep
  exact ⟨buffers, limits⟩

end Sys2Proof.Machine
end

section
/-! PROOF. Law L7 with R170: the Event Unit's own operations keep the present report and its copy in the store lawful. -/

namespace Sys2Proof.Machine

-- One proof body at a time: each thread reserves memory, and the whole text as one file comes close to the limit of the check.
set_option Elab.async false

/-! ### The SEQ of a report cell (R131, R166, R179) -/

/-- R179: SEQ stands above six fields and the CHECK, and below two fields. -/
theorem ofPayload_toPayload_seq (c : Control) : (Control.ofPayload c.toPayload).seq = c.seq := by
  simp only [Control.ofPayload, Control.toPayload, Control.body]
  repeat rw [BitVec.extractLsb'_append_eq_of_le (by decide)]
  exact BitVec.extractLsb'_append_eq_right

theorem retransmitted_seq (p : Payload) : (Control.ofPayload (retransmitted p)).seq = (Control.ofPayload p).seq :=
  ofPayload_toPayload_seq _

theorem State.reportCell_seq (s : State) (target : BitVec 6) : (s.reportCell target).seq = s.events.number + 1 :=
  ofPayload_toPayload_seq _

/-! ### The invariant of the Event Unit -/

/-- Law L7 with R170, as an invariant of the Event Unit alone: its clauses are those of `State.LawL7` and `State.RenewedCarried`. -/
structure EventUnit.ReportLaws (u : EventUnit) : Prop where
  store   : ∀ c, u.store = some c → u.reportState = .outstanding ∧ c.seq = u.number
  present : u.reportState = .outstanding → ∃ c, u.present = some c ∧ c.seq = u.number
  timer   : u.timer ≠ none → u.reportState = .outstanding
  idle    : u.reportState = .idle → u.carried = 0 ∧ u.renewed = 0 ∧ u.present = none
  renewed : u.renewed &&& ~~~u.carried = 0

theorem State.reportLaws_iff {s : State} : s.events.ReportLaws ↔ s.LawL7 ∧ s.RenewedCarried :=
  ⟨fun h => ⟨⟨h.store, h.present, h.timer, h.idle⟩, h.renewed⟩,
    fun ⟨⟨store, present, timer, idle⟩, renewed⟩ => ⟨store, present, timer, idle, renewed⟩⟩

/-! ### What the Event Unit does -/

/-- R162, R180: a flag set that holds a flag holds that flag's bit. -/
theorem flagBit_and_not {x : BitVec 14} {f : EventFlag} (h : hasFlag x f = true) : flagBit f &&& ~~~x = 0 := by
  apply BitVec.eq_of_getLsbD_eq
  intro j _
  by_cases hj : j = flagNumber f
  · have : x.getLsbD j = true := hj ▸ h
    simp [this]
  · have : (flagBit f).getLsbD j = false := by
      simp only [flagBit, BitVec.getLsbD_shiftLeft, BitVec.getLsbD_one]
      grind
    simp [this]

namespace EventUnit.ReportLaws

variable {u : EventUnit}

/-- A unit in IDLE with nothing carried and nothing stored is lawful. -/
theorem of_idle (hstate : u.reportState = .idle) (hstore : u.store = none) (htimer : u.timer = none) (hcarried : u.carried = 0)
    (hrenewed : u.renewed = 0) (hpresent : u.present = none) : u.ReportLaws where
  store c hc := by simp [hstore] at hc
  present ho := by simp [hstate] at ho
  timer ht := absurd htimer ht
  idle _ := ⟨hcarried, hrenewed, hpresent⟩
  renewed := by simp [hrenewed]

/-- R171, R172, R175: the present report ends. -/
theorem toIdle (u : EventUnit) (retries : Nat) : (u.toIdle retries).ReportLaws := .of_idle rfl rfl rfl rfl rfl rfl

theorem powerOn : EventUnit.powerOn.ReportLaws := .of_idle rfl rfl rfl rfl rfl rfl

/-- R174: the flags themselves are free. -/
theorem setFlags (h : u.ReportLaws) (flags : BitVec 14) : EventUnit.ReportLaws { u with flags := flags } :=
  ⟨h.store, h.present, h.timer, h.idle, h.renewed⟩

/-- R170: a renewed mark is set for a carried flag alone. -/
theorem occurrence (h : u.ReportLaws) (f : EventFlag) : (u.occurrence f).ReportLaws where
  store := h.store
  present := h.present
  timer := h.timer
  idle hi := by
    obtain ⟨hcarried, hrenewed, hpresent⟩ := h.idle hi
    have hi : u.reportState = .idle := hi
    exact ⟨hcarried, by simp [EventUnit.occurrence, hi, hrenewed], hpresent⟩
  renewed := by
    simp only [EventUnit.occurrence]
    split
    · next hr =>
      rw [BitVec.and_or_distrib_right, h.renewed, flagBit_and_not hr.2]
      rfl
    · exact h.renewed

/-- R168: the timer starts in OUTSTANDING alone. -/
theorem sendingComplete (h : u.ReportLaws) (n : Byte) : (u.sendingComplete n).ReportLaws := by
  unfold EventUnit.sendingComplete
  split
  · next hn => exact ⟨h.store, h.present, fun _ => hn.1, h.idle, h.renewed⟩
  · exact h

/-- R169: the copy that a resend stores carries the present report's number. -/
theorem timedOut (h : u.ReportLaws) (ho : u.reportState = .outstanding) : u.timedOut.ReportLaws := by
  unfold EventUnit.timedOut
  split
  · refine ⟨fun c hc => ⟨ho, ?_⟩, h.present, absurd rfl, h.idle, h.renewed⟩
    obtain ⟨k, hk, rfl⟩ := Option.map_eq_some_iff.1 hc
    obtain ⟨p, hp, hseq⟩ := h.present ho
    obtain rfl : p = k := Option.some.inj (hp.symm.trans hk)
    exact (retransmitted_seq p.payload).trans hseq
  · exact ⟨nofun, nofun, absurd rfl, nofun, h.renewed⟩

theorem tick (h : u.ReportLaws) (timeout : Nat) : (u.tick timeout).ReportLaws := by
  unfold EventUnit.tick
  split
  · exact h
  · next n hn =>
    have ho := h.timer (by simp [hn])
    split
    · exact h.timedOut ho
    · exact ⟨h.store, h.present, fun _ => ho, h.idle, h.renewed⟩

/-- R171: an acknowledgement. -/
theorem acknowledge (u : EventUnit) (retries : Nat) : (u.acknowledge retries).ReportLaws := toIdle _ retries

/-- R175: a *report target* that changed abandons the present report. -/
theorem settingsChanged (h : u.ReportLaws) (old new : Settings) : (u.settingsChanged old new).ReportLaws := by
  unfold EventUnit.settingsChanged
  split
  · exact toIdle u _
  · exact h

end EventUnit.ReportLaws

/-! ### The events of the Event Unit and of its commands -/

/-- R165, R166: a built report carries the number that the build gives it, and stands in the store. -/
theorem buildReport_reportLaws {s : State} (h : s.events.ReportLaws) : s.buildReport.events.ReportLaws := by
  unfold State.buildReport
  split
  · exact h
  · next target _ =>
    split
    · have hseq := s.reportCell_seq target
      exact ⟨fun c hc => ⟨rfl, Option.some.inj hc ▸ hseq⟩, fun _ => ⟨_, rfl, hseq⟩, absurd rfl, nofun, BitVec.zero_and⟩
    · exact h

/-- R167: an issue empties the store. -/
theorem issueReport_reportLaws {s : State} (h : s.events.ReportLaws) : s.issueReport.events.ReportLaws := by
  unfold State.issueReport
  split
  · exact h
  · split
    · exact ⟨nofun, h.present, h.timer, h.idle, h.renewed⟩
    · exact h

end Sys2Proof.Machine
end

section
/-! PROOF. Law L9: the calendar's own operations keep its banks, its position and a pending commit lawful. -/

namespace Sys2Proof.Machine

-- One proof body at a time: each thread reserves memory, and the whole text as one file comes close to the limit of the check.
set_option Elab.async false

/-! ### The banks (R72) -/

section
variable (x : Calendar) (b : Bank)

@[simp] theorem Calendar.setShadow_activeBank : (x.setShadow b).activeBank = x.activeBank := by
  unfold Calendar.setShadow Calendar.activeBank
  split <;> next h => simp [h, Calendar.bank]

@[simp] theorem Calendar.setShadow_position : (x.setShadow b).position = x.position := by
  unfold Calendar.setShadow
  split <;> rfl

@[simp] theorem Calendar.setShadow_commitPending : (x.setShadow b).commitPending = x.commitPending := by
  unfold Calendar.setShadow
  split <;> rfl

@[simp] theorem Calendar.swap_activeBank : x.swap.activeBank = x.shadowBank := by
  cases h : x.active <;> simp [Calendar.swap, Calendar.activeBank, Calendar.shadowBank, h, BankName.other, Calendar.bank]

end

/-- R72, R74: both banks have lengths 1..256. -/
def Calendar.LengthsOk (x : Calendar) : Prop := x.bankA.LengthOk ∧ x.bankB.LengthOk

theorem Calendar.LengthsOk.bank {x : Calendar} (h : x.LengthsOk) (n : BankName) : (x.bank n).LengthOk := by
  cases n with
  | a => exact h.1
  | b => exact h.2

theorem Calendar.LengthsOk.setShadow {x : Calendar} {b : Bank} (h : x.LengthsOk) (hb : b.LengthOk) : (x.setShadow b).LengthsOk := by
  unfold Calendar.setShadow
  split
  · exact ⟨h.1, hb⟩
  · exact ⟨hb, h.2⟩

/-! ### The invariant of the calendar -/

/-- Law L9, as an invariant of the calendar alone: its clauses are those of `State.LawL9`. -/
structure Calendar.ScheduleLaws (x : Calendar) : Prop where
  lengths  : x.LengthsOk
  active   : x.activeBank.servesControl = true
  shadow   : x.commitPending = true → x.shadowBank.servesControl = true
  position : x.position < x.activeBank.length

theorem State.scheduleLaws_iff {s : State} : s.cal.ScheduleLaws ↔ s.LawL9 :=
  ⟨fun h => ⟨h.lengths.1, h.lengths.2, h.active, h.shadow, h.position⟩,
    fun ⟨hA, hB, active, shadow, position⟩ => ⟨⟨hA, hB⟩, active, shadow, position⟩⟩

namespace Calendar.ScheduleLaws

variable {x : Calendar}

theorem powerOn : Calendar.powerOn.ScheduleLaws := State.scheduleLaws_iff.2 resetIsLawful.l9

/-- The cell in transmission stands apart from the schedule. -/
theorem carrying (h : x.ScheduleLaws) (c : Option TxCell) : Calendar.ScheduleLaws { x with inTx := c } :=
  ⟨h.lengths, h.active, h.shadow, h.position⟩

/-- R86 to R88: the shadow bank is free while no commit is pending. -/
theorem setShadow {b : Bank} (h : x.ScheduleLaws) (hfree : x.commitPending = false) (hb : b.LengthOk) :
    (x.setShadow b).ScheduleLaws where
  lengths := h.lengths.setShadow hb
  active := by rw [x.setShadow_activeBank]; exact h.active
  shadow hp := by simp [hfree] at hp
  position := by rw [x.setShadow_position, x.setShadow_activeBank]; exact h.position

/-- R90: a commit waits for a shadow bank that serves control. -/
theorem commit (h : x.ScheduleLaws) (hs : x.shadowBank.servesControl = true) :
    Calendar.ScheduleLaws { x with commitPending := true } :=
  ⟨h.lengths, h.active, fun _ => hs, h.position⟩

/-- R91. -/
theorem cancel (h : x.ScheduleLaws) : Calendar.ScheduleLaws { x with commitPending := false } :=
  ⟨h.lengths, h.active, nofun, h.position⟩

/-- R76, R93: the committed bank becomes the active one, read from its first entry. -/
theorem swap (h : x.ScheduleLaws) (hp : x.commitPending = true) : Calendar.ScheduleLaws { x.swap with position := 0 } where
  lengths := h.lengths
  active := x.swap_activeBank ▸ h.shadow hp
  shadow := nofun
  position := (h.lengths.bank x.active.other).1

/-- R75: the first entry of the active bank. -/
theorem rewind (h : x.ScheduleLaws) : Calendar.ScheduleLaws { x with position := 0 } :=
  ⟨h.lengths, h.active, h.shadow, (h.lengths.bank x.active).1⟩

/-- R75, R76: the position advances within the active length, or wraps. -/
theorem advanced (h : x.ScheduleLaws) : x.advanced.ScheduleLaws := by
  unfold Calendar.advanced
  split
  · next hin => exact ⟨h.lengths, h.active, h.shadow, hin⟩
  · split
    · next hp => exact h.swap hp
    · exact h.rewind

/-- R93: a RESTART TRAFFIC makes a pending commit, and begins the active bank anew. -/
theorem restarted (h : x.ScheduleLaws) : x.restarted.ScheduleLaws := by
  unfold Calendar.restarted
  split
  · next hp => exact h.swap hp
  · exact h.rewind

end Calendar.ScheduleLaws

/-! ### The CAL commands (R86 to R91) -/

section
variable {c : Control} {i : Fin 4} {s : State}

theorem ownCalWrite_scheduleLaws (h : s.cal.ScheduleLaws) : (ownCalWrite c i s).state.cal.ScheduleLaws := by
  unfold ownCalWrite
  split
  · split
    · exact h
    · split
      · exact h
      · next hp => exact h.setShadow (Bool.eq_false_iff.2 hp) (h.lengths.bank _)
  · exact h

theorem ownCalLength_scheduleLaws (h : s.cal.ScheduleLaws) : (ownCalLength c i s).state.cal.ScheduleLaws := by
  unfold ownCalLength
  split
  · next hlength =>
    simp only [inRange, Bool.and_eq_true, decide_eq_true_eq] at hlength
    split
    · exact h
    · next hp => exact h.setShadow (Bool.eq_false_iff.2 hp) hlength
  · exact h

theorem ownCalCopy_scheduleLaws (h : s.cal.ScheduleLaws) : (ownCalCopy c i s).state.cal.ScheduleLaws := by
  unfold ownCalCopy
  split
  · exact h
  · next hp => exact h.setShadow (Bool.eq_false_iff.2 hp) (h.lengths.bank _)

theorem ownCalCommit_scheduleLaws (h : s.cal.ScheduleLaws) : (ownCalCommit c i s).state.cal.ScheduleLaws := by
  unfold ownCalCommit
  split
  · exact h
  · next hs =>
    split
    · exact h
    · exact h.commit (by simpa using hs)

theorem ownCalCancel_scheduleLaws (h : s.cal.ScheduleLaws) : (ownCalCancel c i s).state.cal.ScheduleLaws := by
  unfold ownCalCancel
  split
  · exact h.cancel
  · exact h

end

end Sys2Proof.Machine
end

section
/-! PROOF. Laws L8 and L12: the operations of the Session Table and of the snapshot buffer keep sessions, claim and buffer lawful. -/

namespace Sys2Proof.Machine

-- One proof body at a time: each thread reserves memory, and the whole text as one file comes close to the limit of the check.
set_option Elab.async false

/-! ### The sessions by their manager nodes (R128, R129) -/

theorem State.managerOf_isSome (s : State) (i : Fin 4) : (s.managerOf i).isSome = (s.sess.entries.get i).isSome :=
  Option.isSome_map

theorem State.managerOf_congr {s t : State} {i : Fin 4} (h : t.sess.entries.get i = s.sess.entries.get i) :
    t.managerOf i = s.managerOf i := by
  rw [State.managerOf, h, State.managerOf]

theorem State.managerOf_setSession (s : State) (i j : Fin 4) (x : Option Session) :
    (s.setSession i x).managerOf j = if i = j then x.map (·.manager) else s.managerOf j := by
  simp only [State.managerOf, State.setSession_sess, Table.get_set]
  split <;> rfl

theorem State.sessionOf_some {s : State} {n : BitVec 6} {i : Fin 4} (h : s.sessionOf n = some i) : s.managerOf i = some n := by
  have hi := (Table.find?_eq_some.1 h).1
  unfold State.managerOf
  split at hi
  · next y hy => simpa [hy] using hi
  · cases hi

theorem State.sessionOf_none {s : State} {n : BitVec 6} (h : s.sessionOf n = none) (j : Fin 4) : s.managerOf j ≠ some n := by
  have hj := Table.find?_eq_none.1 h j
  unfold State.managerOf
  split at hj
  · next y hy => simpa [hy] using hj
  · next hy => simp [hy]

/-! ### The invariant -/

/-- Laws L8 and L12, in which the claim and the owner of the snapshot buffer are both held by an OPEN session. -/
structure State.SessionLaws (s : State) : Prop where
  sessions : s.LawL8
  snapshot : s.LawL12

namespace State.SessionLaws

variable {s t : State}

/-- R129, R153: the laws read the manager nodes, the claim and the snapshot buffer. -/
theorem of_managers (h : s.SessionLaws) (hm : ∀ i, t.managerOf i = s.managerOf i) (hclaim : t.sess.claim = s.sess.claim)
    (hsnap : t.counters.snapshot = s.counters.snapshot) : t.SessionLaws := by
  obtain ⟨⟨hunique, hheld⟩, howned, howner, hlength⟩ := h
  have hopen (i : Fin 4) : (t.sess.entries.get i).isSome = (s.sess.entries.get i).isSome := by
    rw [← State.managerOf_isSome, hm, State.managerOf_isSome]
  refine ⟨⟨fun i j n hi hj => ?_, fun i hi => ?_⟩, ?_, fun i hi => ?_, ?_⟩
  · rw [hm] at hi hj
    exact hunique i j n hi hj
  · rw [hopen]
    exact hheld i (hclaim ▸ hi)
  · rwa [hsnap]
  · rw [hopen]
    exact howner i (hsnap ▸ hi)
  · rwa [hsnap]

theorem of_frame (h : s.SessionLaws) (hsess : t.sess = s.sess) (hsnap : t.counters.snapshot = s.counters.snapshot) :
    t.SessionLaws :=
  h.of_managers (fun _ => State.managerOf_congr (by rw [hsess])) (by rw [hsess]) hsnap

theorem of_powerOn (hsess : t.sess = .powerOn) (hsnap : t.counters.snapshot = .empty) : t.SessionLaws :=
  have hreset : State.reset.SessionLaws := ⟨resetIsLawful.l8, resetIsLawful.l12⟩
  hreset.of_frame hsess hsnap

/-- A session whose manager stays may change otherwise. -/
theorem updateSession {i : Fin 4} {x y : Session} (h : s.SessionLaws) (hx : s.sess.entries.get i = some x)
    (hy : y.manager = x.manager) : (s.setSession i (some y)).SessionLaws := by
  refine h.of_managers (fun j => ?_) rfl rfl
  rw [State.managerOf_setSession]
  split
  · next hij => simp [State.managerOf, ← hij, hx, hy]
  · rfl

theorem restartIdle (h : s.SessionLaws) (i : Fin 4) : (s.restartIdle i).SessionLaws := by
  unfold State.restartIdle
  split
  · next hx => exact h.updateSession hx rfl
  · exact h

theorem cacheReply (h : s.SessionLaws) (i : Fin 4) (k : ControlCell) : (s.cacheReply i k).SessionLaws := by
  unfold State.cacheReply
  split
  · next hx => exact h.updateSession hx rfl
  · exact h

theorem advanceSeq (h : s.SessionLaws) (i : Fin 4) (n : Byte) : (s.advanceSeq i n).SessionLaws := by
  unfold State.advanceSeq
  split
  · next hx => exact h.updateSession hx rfl
  · exact h

theorem raiseIdle (h : s.SessionLaws) : s.raiseIdle.SessionLaws := by
  refine h.of_managers (fun i => ?_) rfl rfl
  simp only [State.managerOf, State.raiseIdle, Table.get_map, Option.map_map]
  rfl

/-- R136: a session opens for a node that manages no other entry. -/
theorem openSession {i : Fin 4} {y : Session} (h : s.SessionLaws) (hnew : ∀ j, j ≠ i → s.managerOf j ≠ some y.manager) :
    (s.setSession i (some y)).SessionLaws := by
  obtain ⟨⟨hunique, hheld⟩, howned, howner, hlength⟩ := h
  have hopen (j : Fin 4) (hj : (s.sess.entries.get j).isSome = true) :
      ((s.setSession i (some y)).sess.entries.get j).isSome = true := by
    rw [State.setSession_sess, Table.get_set]
    split
    · rfl
    · exact hj
  refine ⟨⟨fun j k n hj hk => ?_, fun j hj => hopen j (hheld j hj)⟩, howned, fun j hj => hopen j (howner j hj), hlength⟩
  rw [State.managerOf_setSession] at hj hk
  split at hj <;> split at hk
  · next hij hik => exact hij.symm.trans hik
  · next hij hik => exact absurd (hk.trans hj.symm) (hnew k (Ne.symm hik))
  · next hij hik => exact absurd (hj.trans hk.symm) (hnew j (Ne.symm hij))
  · exact hunique j k n hj hk

theorem emptySnapshot (h : s.SessionLaws) : s.emptySnapshot.SessionLaws :=
  ⟨h.sessions, by simp [Snapshot.empty], nofun, Nat.zero_le _⟩

/-- R140: an OPEN session takes the claim. -/
theorem setClaim {i : Fin 4} (h : s.SessionLaws) (hi : (s.sess.entries.get i).isSome = true) :
    State.SessionLaws { s with sess := { s.sess with claim := some i } } :=
  ⟨⟨h.sessions.1, fun _ hj => Option.some.inj hj ▸ hi⟩, h.snapshot⟩

/-- R141: the claim is released. -/
theorem freeClaim (h : s.SessionLaws) : State.SessionLaws { s with sess := { s.sess with claim := none } } :=
  ⟨⟨h.sessions.1, nofun⟩, h.snapshot⟩

/-- R134: a teardown frees the claim and the snapshot buffer of the session that ends. -/
theorem teardown (h : s.SessionLaws) (i : Fin 4) : (s.teardown i).SessionLaws := by
  obtain ⟨⟨hunique, hheld⟩, howned, howner, hlength⟩ := h
  rw [State.teardown_eq]
  have hopen {j : Fin 4} (hne : j ≠ i) (hj : (s.sess.entries.get j).isSome = true) :
      ((s.sess.entries.set i none).get j).isSome = true := by rwa [Table.get_set_ne _ _ hne.symm]
  have hmanages (j : Fin 4) (n : BitVec 6) (hj : ((s.sess.entries.set i none).get j).map (·.manager) = some n) :
      s.managerOf j = some n := by
    rw [Table.get_set] at hj
    split at hj
    · cases hj
    · exact hj
  refine ⟨⟨fun j k n hj hk => hunique j k n (hmanages j n hj) (hmanages k n hk), fun j hj => ?claim⟩, ?snapshot⟩
  case claim =>
    obtain ⟨hne, hj⟩ := Option.ite_none_left_eq_some.1 hj
    exact hopen (fun he => hne (he ▸ hj)) (hheld j hj)
  case snapshot =>
    unfold State.LawL12
    dsimp only
    split
    · exact ⟨by simp [Snapshot.empty], nofun, Nat.zero_le _⟩
    · next hne => exact ⟨howned, fun j hj => hopen (fun he => hne (he ▸ hj)) (howner j hj), hlength⟩

/-- R155: a snapshot is copied for an OPEN session, with 1..32 records. -/
theorem takeSnapshot {i : Fin 4} (source : SnapSource) (clear : Bool) (at_ n : Nat) (h : s.SessionLaws)
    (hi : (s.sess.entries.get i).isSome = true) (hsome : s.snapRecords source at_ n ≠ [])
    (hlength : (s.snapRecords source at_ n).length ≤ 32) : (s.takeSnapshot i source clear at_ n).SessionLaws :=
  ⟨h.sessions, iff_of_true rfl hsome, fun _ hj => Option.some.inj hj ▸ hi, hlength⟩

end State.SessionLaws

/-! ### SNAP-TAKE (R154, R155) -/

/-- R154, R156: the number of entries that a STREAMS snapshot within the table holds. -/
theorem entriesFrom_length {at_ n : Nat} (h : at_ + n ≤ 256) : (entriesFrom at_ n).length = n := by
  rw [entriesFrom, List.length_filterMap_eq_countP, List.countP_eq_length.2, List.length_range]
  intro k hk
  have := List.mem_range.1 hk
  rw [dif_pos (by omega)]
  rfl

/-- R154: a well-ranged SNAP-TAKE copies 1..32 records. -/
theorem snapRecords_length {source : SnapSource} {c : Control} (s : State) (h : snapRange source c = true) :
    1 ≤ (s.snapRecords source c.index.toNat c.count.toNat).length
      ∧ (s.snapRecords source c.index.toNat c.count.toNat).length ≤ 32 := by
  cases source with
  | streams =>
    simp only [snapRange, inRange, Bool.and_eq_true, decide_eq_true_eq] at h
    rw [State.snapRecords, List.length_map, entriesFrom_length h.2]
    exact h.1.2
  | queues => simp [State.snapRecords]
  | device => simp [State.snapRecords]

end Sys2Proof.Machine
end

section
/-! PROOF. Laws L7, L8, L9 and L12 with R170 as one invariant, and the events that leave all that they read. -/

namespace Sys2Proof.Machine

-- One proof body at a time: each thread reserves memory, and the whole text as one file comes close to the limit of the check.
set_option Elab.async false

/-! ### The invariant -/

/-- Laws L7, L8, L9 and L12, and R170: what `Obligations.SessionCalendarReportLawsKept` is about. -/
structure State.ControlLaws (s : State) : Prop where
  report   : s.events.ReportLaws
  schedule : s.cal.ScheduleLaws
  sessions : s.SessionLaws

/-- State `t` has the Event Unit, the calendar, the sessions and the snapshot buffer of `s`: all that the laws read. -/
def State.LeavesControl (s t : State) : Prop :=
  t.events = s.events ∧ t.cal = s.cal ∧ t.sess = s.sess ∧ t.counters.snapshot = s.counters.snapshot

@[simp] theorem State.leavesControl_iff {s t : State} : s.LeavesControl t ↔
    t.events = s.events ∧ t.cal = s.cal ∧ t.sess = s.sess ∧ t.counters.snapshot = s.counters.snapshot := .rfl

theorem State.LeavesControl.refl (s : State) : s.LeavesControl s := ⟨rfl, rfl, rfl, rfl⟩

theorem State.LeavesControl.trans {s t u : State} (h : s.LeavesControl t) (h' : t.LeavesControl u) : s.LeavesControl u := by
  obtain ⟨hevents, hcal, hsess, hsnap⟩ := h
  obtain ⟨hevents', hcal', hsess', hsnap'⟩ := h'
  exact ⟨hevents'.trans hevents, hcal'.trans hcal, hsess'.trans hsess, hsnap'.trans hsnap⟩

/-- An operation that keeps the laws. -/
def KeepsControlLaws (f : State → State) : Prop := ∀ s : State, s.ControlLaws → (f s).ControlLaws

namespace State.ControlLaws

variable {s t : State}

theorem of_leaves (h : s.ControlLaws) (ht : s.LeavesControl t) : t.ControlLaws := by
  obtain ⟨hevents, hcal, hsess, hsnap⟩ := ht
  exact ⟨hevents ▸ h.report, hcal ▸ h.schedule, h.sessions.of_frame hsess hsnap⟩

theorem of_powerOn (hevents : t.events = .powerOn) (hcal : t.cal = .powerOn) (hsess : t.sess = .powerOn)
    (hsnap : t.counters.snapshot = .empty) : t.ControlLaws :=
  ⟨hevents ▸ .powerOn, hcal ▸ .powerOn, .of_powerOn hsess hsnap⟩

end State.ControlLaws

namespace KeepsControlLaws

theorem of_leaves {f : State → State} (hf : ∀ s : State, s.LeavesControl (f s)) : KeepsControlLaws f :=
  fun s h => h.of_leaves (hf s)

/-- R162: the laws do not read what is handed over, so an event may be run apart from it; a held part takes no event. -/
theorem live {f : State → State} (hf : KeepsControlLaws f) : KeepsControlLaws (live f) := fun s h => by
  cases hr : s.resetHeld with
  | true => rwa [live_held hr]
  | false =>
    rw [live_running hr, oneEvent_eq_unflagged]
    exact (hf s.unflagged (h.of_leaves (.refl s))).of_leaves (.refl (f s.unflagged))

/-- An event that reaches nothing the laws read keeps them. -/
theorem live_of_leaves {f : State → State} (hf : ∀ s : State, s.LeavesControl (f s)) : KeepsControlLaws (Machine.live f) :=
  live (of_leaves hf)

end KeepsControlLaws

/-! ### Cells that arrive: only counters of streams, queues and the device are raised (R4 to R16, R57 to R64, R102 to R104) -/

section
variable (s : State)

@[simp] theorem State.countOther_snapshot (k : Kind) (o : Option (Fin 256)) :
    (s.countOther k o).counters.snapshot = s.counters.snapshot := by
  unfold State.countOther
  split
  · split <;> simp
  · rfl

@[simp] theorem State.refuseAdd_snapshot : s.refuseAdd.counters.snapshot = s.counters.snapshot := by simp [State.refuseAdd]

@[simp] theorem State.expireHop_snapshot : s.expireHop.counters.snapshot = s.counters.snapshot := by simp [State.expireHop]

@[simp] theorem State.accept_snapshot (q : Fin 8) (c : QueuedCell) : (s.accept q c).counters.snapshot = s.counters.snapshot := by
  simp [State.accept]

@[simp] theorem State.admitEgress_snapshot (q : Fin 8) (c : QueuedCell) :
    (s.admitEgress q c).counters.snapshot = s.counters.snapshot := by
  unfold State.admitEgress
  split <;> simp

@[simp] theorem State.admitDrop_snapshot (i : Fin 256) (c : RawCell) : (s.admitDrop i c).counters.snapshot = s.counters.snapshot := by
  simp only [State.admitDrop]
  split
  · simp
  · split <;> simp

@[simp] theorem State.policeAndAdmit_snapshot (i : Fin 256) (e : StreamEntry) (h : Header) (p : Payload) :
    (s.policeAndAdmit i e h p).counters.snapshot = s.counters.snapshot := by
  simp only [State.policeAndAdmit]
  split
  · simp
  · split
    · simp
    · split <;> simp

@[simp] theorem State.forwardPart_snapshot (i : Fin 256) (e : StreamEntry) (h : Header) (p : Payload) :
    (s.forwardPart i e h p).counters.snapshot = s.counters.snapshot := by
  unfold State.forwardPart
  split
  · simp
  · split <;> simp

@[simp] theorem State.unknownLabel_snapshot (h : Header) (p : Payload) :
    (s.unknownLabel h p).counters.snapshot = s.counters.snapshot := by
  simp only [State.unknownLabel]
  split
  · simp
  · split <;> simp

@[simp] theorem State.applyAction_snapshot (i : Fin 256) (e : StreamEntry) (c : RawCell) :
    (s.applyAction i e c).counters.snapshot = s.counters.snapshot := by
  simp only [State.applyAction]
  split <;> simp

@[simp] theorem State.lookupRing_snapshot (c : RawCell) : (s.lookupRing c).counters.snapshot = s.counters.snapshot := by
  simp only [State.lookupRing]
  split
  · simp
  · split
    · simp
    · split <;> simp

@[simp] theorem State.toIntake_snapshot (c : ControlCell) : (s.toIntake c).counters.snapshot = s.counters.snapshot := by
  unfold State.toIntake
  split
  · simp
  · split <;> simp

@[simp] theorem State.toTransit_snapshot (c : ControlCell) : (s.toTransit c).counters.snapshot = s.counters.snapshot := by
  unfold State.toTransit
  split
  · simp
  · split <;> simp

@[simp] theorem State.routeControl_snapshot (c : ControlCell) : (s.routeControl c).counters.snapshot = s.counters.snapshot := by
  simp only [State.routeControl]
  split
  · split <;> simp
  · split
    · split <;> simp
    · simp

@[simp] theorem State.sortCell_snapshot (c : RawCell) : (s.sortCell c).counters.snapshot = s.counters.snapshot := by
  simp only [State.sortCell]
  split <;> simp [State.markSource]

@[simp] theorem State.arriveLocal_snapshot (c : RawCell) : (s.arriveLocal c).counters.snapshot = s.counters.snapshot := by
  simp only [State.arriveLocal]
  split
  · simp
  · split
    · simp
    · split
      · simp
      · split <;> simp

end

theorem handOn_leavesControl (p : Payload) (s : State) : s.LeavesControl (State.handOn p s) := by
  unfold State.handOn
  split <;> simp

theorem localArrival_leavesControl (s : State) : s.LeavesControl s.localArrival := by
  unfold State.localArrival
  split <;> simp

/-! ### The receiver, the meters, the local port and the reset pin -/

theorem huntByte_leavesControl (b : Byte) (s : State) : s.LeavesControl (State.huntByte b s) := by
  unfold State.huntByte
  split <;> exact .refl s

theorem syncBad_leavesControl (n : Nat) (w : Word) (s : State) : s.LeavesControl (s.syncBad n w) := by
  unfold State.syncBad
  split <;> simp

theorem testHeader_leavesControl (w : Word) (s : State) : s.LeavesControl (State.testHeader w s) := by
  unfold State.testHeader
  split
  · split
    · exact .refl s
    · split
      · unfold State.presyncGood
        split <;> simp
      · exact .refl s
    · split
      · exact .refl s
      · exact syncBad_leavesControl _ w s
  · exact .refl s

theorem sourceAt_leavesControl (s : State) (o : Origin) (m : Fin 128) : s.LeavesControl (s.sourceAt o m) := by
  simp only [State.sourceAt]
  split
  · split <;> simp [State.expireMeter]
  · exact .refl s

theorem takeSourceEvent_leavesControl (p : Origin → Bool) (m : Option (Fin 128)) (s : State) :
    s.LeavesControl (State.takeSourceEvent p m s) := by
  unfold State.takeSourceEvent
  split
  · exact .refl s
  · exact List.foldlRecOn _ _ (.refl s) fun t ht m _ => ht.trans (sourceAt_leavesControl t _ m)

theorem takeSourceOperand_leavesControl (p : Origin → Bool) (m : Option Nat) (s : State) :
    s.LeavesControl (State.takeSourceOperand p m s) := by
  unfold State.takeSourceOperand
  split
  · exact takeSourceEvent_leavesControl p _ s
  · split
    · exact .refl s
    · exact takeSourceEvent_leavesControl p _ s

theorem takeExpiry_leavesControl (m : Nat) (s : State) : s.LeavesControl (State.takeExpiry m s) := by
  unfold State.takeExpiry
  split
  · exact .refl s
  · simp only
    split
    · exact takeSourceEvent_leavesControl _ _ s
    · exact .refl s

theorem cutOpen_leavesControl (s : State) : s.LeavesControl s.cutOpen := by
  unfold State.cutOpen
  split <;> simp [State.setOpen]

theorem addFirst_leavesControl (w : Word) (s : State) : s.LeavesControl (State.addFirst w s).portEdge := by
  simp only [State.addFirst]
  split <;> exact cutOpen_leavesControl s

theorem addContinue_leavesControl (w : Word) (s : State) : s.LeavesControl (State.addContinue w s).portEdge := by
  simp only [State.addContinue]
  split
  · simp
  · split <;> exact .refl s
  · split <;> simp [State.setOpen]

theorem takeDrop_leavesControl (s : State) : s.LeavesControl s.takeDrop.portEdge := by
  simp only [State.takeDrop]
  split
  · exact .refl s
  · split <;> exact .refl s

theorem releasePin_leavesControl (straps : BitVec 6) (s : State) : s.LeavesControl (s.releasePin straps) := by
  unfold State.releasePin
  split <;> exact .refl s

end Sys2Proof.Machine
end

section
/-! PROOF. The slot, the restarts, the ticks and the Event Unit's events keep laws L7, L8, L9 and L12. -/

namespace Sys2Proof.Machine

-- One proof body at a time: each thread reserves memory, and the whole text as one file comes close to the limit of the check.
set_option Elab.async false

/-! ### The slot (R75, R76, R84) and the restarts (R93, R147) -/

theorem State.SelectsTo.leavesControl {s t : State} (h : s.SelectsTo t) : s.LeavesControl t := by
  obtain ⟨_, _, _, _, _, _, _, rfl⟩ := h
  exact .refl s

/-- R75, R76: of what the laws read a slot event moves the calendar alone. -/
theorem slotEvent_keepsControlLaws : KeepsControlLaws State.slotEvent := fun s h => by
  cases hin : s.cal.inTx with
  | some c => simpa only [State.slotEvent, hin] using h
  | none =>
    obtain ⟨c, t, hselects, hevent⟩ := State.slotEvent_parts hin
    obtain ⟨flags, hadvance, -⟩ := t.advance_parts
    rw [State.slotSource_eq, State.countSlot_eq] at hselects
    have ht : t.ControlLaws := (h.of_leaves (.refl s)).of_leaves hselects.leavesControl
    rw [hevent, hadvance]
    exact ⟨ht.report, ht.schedule.advanced.carrying _, ht.sessions.of_frame rfl rfl⟩

/-- R84: a completion takes the cell out of transmission. -/
theorem finishTx_leavesControl (s : State) (c : TxCell) : (s.carrying none).LeavesControl (s.finishTx c) := by
  cases c with
  | pool c q => simp [State.finishTx, State.carrying]
  | control k =>
    simp only [State.finishTx]
    split <;> simp [State.carrying]
  | idle => simp [State.finishTx, State.carrying]

theorem State.ControlLaws.finishTx {s : State} (h : s.ControlLaws) (c : TxCell) : (s.finishTx c).ControlLaws :=
  have hnone : (s.carrying none).ControlLaws := ⟨h.report, h.schedule.carrying none, h.sessions.of_frame rfl rfl⟩
  hnone.of_leaves (finishTx_leavesControl s c)

/-- R93, R148, R177: a RESTART TRAFFIC keeps the Event Unit, the sessions and the snapshot buffer. -/
theorem State.ControlLaws.restartTraffic {s : State} (h : s.ControlLaws) : s.restartTraffic.ControlLaws := by
  have hrestarted : State.ControlLaws { s with cal := s.cal.restarted } :=
    ⟨h.report, h.schedule.restarted, h.sessions.of_frame rfl rfl⟩
  refine hrestarted.of_leaves ?_
  simp only [State.restartTraffic]
  split <;> split <;> simp

theorem completeSlot_keepsControlLaws (straps : BitVec 6) : KeepsControlLaws (State.completeSlot straps) := fun s h => by
  unfold State.completeSlot
  split
  · exact h
  · next c _ =>
    split
    · exact h.finishTx c
    · exact (h.finishTx c).restartTraffic
    · exact .of_powerOn rfl rfl rfl rfl

/-! ### The ticks (R132 to R134, R169) -/

theorem State.ControlLaws.withSessions {s t : State} (h : s.ControlLaws) (hevents : t.events = s.events) (hcal : t.cal = s.cal)
    (hsess : t.SessionLaws) : t.ControlLaws := ⟨hevents ▸ h.report, hcal ▸ h.schedule, hsess⟩

theorem State.ControlLaws.withEvents {s : State} {u : EventUnit} (h : s.ControlLaws) (hu : u.ReportLaws) :
    State.ControlLaws { s with events := u } := ⟨hu, h.schedule, h.sessions.of_frame rfl rfl⟩

theorem State.ControlLaws.teardown {s : State} (h : s.ControlLaws) (i : Fin 4) : (s.teardown i).ControlLaws :=
  h.withSessions (by simp) (by simp) (h.sessions.teardown i)

theorem State.ControlLaws.raiseIdle {s : State} (h : s.ControlLaws) : s.raiseIdle.ControlLaws :=
  h.withSessions rfl rfl h.sessions.raiseIdle

theorem State.ControlLaws.hand {s : State} (h : s.ControlLaws) (f : EventFlag) : (s.hand f).ControlLaws := h.of_leaves (by simp)

theorem sessionTick_keepsControlLaws : KeepsControlLaws State.sessionTick := fun s h => by
  have hraised : ({ s with handover := { s.handover with
      sessionTicks := s.handover.sessionTicks - 1 } } : State).raiseIdle.ControlLaws :=
    State.ControlLaws.raiseIdle (h.of_leaves (.refl s))
  unfold State.sessionTick State.expireSessions
  split
  · exact hraised
  · exact .hand (List.foldlRecOn _ _ hraised fun t ht i _ => ht.teardown i) _

theorem takeSessionTick_keepsControlLaws : KeepsControlLaws State.takeSessionTick := fun s h => by
  unfold State.takeSessionTick
  split
  · exact h
  · exact sessionTick_keepsControlLaws s h

theorem takeSessionExpiry_keepsControlLaws : KeepsControlLaws State.takeSessionExpiry := fun s h => by
  unfold State.takeSessionExpiry
  split
  · exact h
  · split
    · exact h
    · exact sessionTick_keepsControlLaws s h

theorem eventTick_keepsControlLaws : KeepsControlLaws State.eventTick := fun s h =>
  (h.withEvents (h.report.tick s.settings.reportTimeout)).of_leaves (.refl _)

theorem takeEventTick_keepsControlLaws : KeepsControlLaws State.takeEventTick := fun s h => by
  unfold State.takeEventTick
  split
  · exact h
  · exact eventTick_keepsControlLaws s h

theorem takeTimeout_keepsControlLaws : KeepsControlLaws State.takeTimeout := fun s h => by
  unfold State.takeTimeout
  split
  · exact h
  · split
    · exact eventTick_keepsControlLaws s h
    · exact h

/-! ### Flags and reports (R162, R165 to R168) -/

theorem setFlag_keepsControlLaws (f : EventFlag) : KeepsControlLaws (State.setFlag f) := fun s h => by
  unfold State.setFlag
  split
  · exact h
  · exact (h.withEvents (h.report.occurrence f)).of_leaves (.refl _)

theorem buildReport_keepsControlLaws : KeepsControlLaws State.buildReport := fun s h => by
  refine (h.withEvents (buildReport_reportLaws h.report)).of_leaves ?_
  unfold State.buildReport
  split
  · exact .refl s
  · split <;> exact .refl _

theorem issueReport_keepsControlLaws : KeepsControlLaws State.issueReport := fun s h => by
  refine (h.withEvents (issueReport_reportLaws h.report)).of_leaves ?_
  unfold State.issueReport
  split
  · exact .refl s
  · split <;> exact .refl _

theorem sendingComplete_keepsControlLaws : KeepsControlLaws State.sendingComplete := fun s h => by
  unfold State.sendingComplete
  split
  · exact h
  · next n _ _ => exact (h.withEvents (h.report.sendingComplete n)).of_leaves (.refl _)

end Sys2Proof.Machine
end

section
/-! PROOF. The intake commands and the step: laws L7, L8, L9 and L12 with R170 are kept. -/

namespace Sys2Proof.Machine

-- One proof body at a time: each thread reserves memory, and the whole text as one file comes close to the limit of the check.
set_option Elab.async false

/-! ### The execution of an intake command (R126, R128) -/

theorem KeepsControlLaws.execution {op : Option Op} {body : Control → State → State} (hb : ∀ c, KeepsControlLaws (body c)) :
    KeepsControlLaws (execution op body) := fun s h => by
  have hbegun (rest : List ControlCell) : (s.beginExecution rest).ControlLaws :=
    h.of_leaves (by simp [State.beginExecution])
  rcases execution_cases op body s with he | ⟨k, rest, -, -, he | ⟨-, he⟩⟩
  · rwa [he]
  · rw [he]
    exact (hbegun rest).of_leaves (.refl _)
  · rw [he]
    exact hb _ _ (hbegun rest)

theorem State.ControlLaws.restartIdle {s : State} (h : s.ControlLaws) (i : Fin 4) : (s.restartIdle i).ControlLaws :=
  h.withSessions (by simp) (by simp) (h.sessions.restartIdle i)

theorem State.ControlLaws.advanceSeq {s : State} (h : s.ControlLaws) (i : Fin 4) (n : Byte) : (s.advanceSeq i n).ControlLaws := by
  have hframe : (s.advanceSeq i n).events = s.events ∧ (s.advanceSeq i n).cal = s.cal := by
    unfold State.advanceSeq
    split <;> exact ⟨rfl, rfl⟩
  exact h.withSessions hframe.1 hframe.2 (h.sessions.advanceSeq i n)

theorem State.ControlLaws.cacheReply {s : State} (h : s.ControlLaws) (i : Fin 4) (k : ControlCell) :
    (s.cacheReply i k).ControlLaws := by
  have hframe : (s.cacheReply i k).events = s.events ∧ (s.cacheReply i k).cal = s.cal := by
    unfold State.cacheReply
    split <;> exact ⟨rfl, rfl⟩
  exact h.withSessions hframe.1 hframe.2 (h.sessions.cacheReply i k)

/-- R131: the reply is cached in a session that is OPEN still, and joins the control egress queue. -/
theorem State.ControlLaws.conclude {s : State} {d : Done} (h : d.state.ControlLaws) (c : Control) (i : Fin 4) :
    (s.conclude c i d).ControlLaws :=
  (h.cacheReply i (s.replyCell c d.reply)).of_leaves (.refl _)

/-- A command's own part that keeps the laws, when its sender's session stands OPEN in entry `i`. -/
def OwnKeepsControlLaws (own : Control → Fin 4 → State → Done) : Prop :=
  ∀ c i (s : State), s.ControlLaws → (s.sess.entries.get i).isSome = true → (own c i s).state.ControlLaws

/-- R128, steps 4 to 8: the steps around a command's own part keep the laws. -/
theorem OwnKeepsControlLaws.inSession {claim : Control → Bool} {own : Control → Fin 4 → State → Done}
    (ho : OwnKeepsControlLaws own) (c : Control) : KeepsControlLaws (inSession claim own c) := fun s h => by
  unfold Machine.inSession
  split
  · exact h.of_leaves (.refl s)
  · next i _ =>
    have hidle := h.restartIdle i
    simp only
    split
    · exact hidle
    · next x hx =>
      split
      · have hseq := hidle.advanceSeq i c.seq
        split
        · exact .conclude (d := Done.same _ _) hseq c i
        · refine .conclude (ho c i _ hseq ?_) c i
          rw [State.advanceSeq_some _ hx, State.setSession_sess, Table.get_set_self]
          rfl
      · split <;> exact hidle.of_leaves (.refl _)

/-- An intake command whose own part keeps the laws keeps them. -/
theorem intake_keepsControlLaws {op : Option Op} {claim : Control → Bool} {own : Control → Fin 4 → State → Done}
    (ho : OwnKeepsControlLaws own) : KeepsControlLaws (live (execution op (inSession claim own))) :=
  (KeepsControlLaws.execution ho.inSession).live

/-- The same for an intake command whose own part reaches nothing that the laws read. -/
theorem offControl_keepsControlLaws {op : Option Op} {claim : Control → Bool} {own : Control → Fin 4 → State → Done}
    (ho : ∀ c i (s : State), s.LeavesControl (own c i s).state) : KeepsControlLaws (live (execution op (inSession claim own))) :=
  intake_keepsControlLaws fun c i s h _ => h.of_leaves (ho c i s)

/-- The same for an intake command that changes nothing of its own. -/
theorem unchanged_keepsControlLaws {op : Option Op} {claim : Control → Bool} {own : Control → Fin 4 → State → Done}
    (ho : ∀ c i s, (own c i s).state = s) : KeepsControlLaws (live (execution op (inSession claim own))) :=
  offControl_keepsControlLaws fun c i s => by
    rw [ho]
    exact .refl s

/-! ### The CAL commands: the calendar alone (R86 to R91) -/

/-- An intake command whose own part reaches the calendar alone. -/
theorem calendar_keepsControlLaws {op : Option Op} {claim : Control → Bool} {own : Control → Fin 4 → State → Done}
    (ho : ∀ c i s, ∃ x, (own c i s).state = { s with cal := x })
    (hx : ∀ c i s, s.cal.ScheduleLaws → (own c i s).state.cal.ScheduleLaws) :
    KeepsControlLaws (live (execution op (inSession claim own))) :=
  intake_keepsControlLaws fun c i s h _ => by
    obtain ⟨x, he⟩ := ho c i s
    have hlaws := hx c i s h.schedule
    rw [he] at hlaws ⊢
    exact ⟨h.report, hlaws, h.sessions.of_frame rfl rfl⟩

section
variable (c : Control) (i : Fin 4) (s : State)

theorem ownCalWrite_calendar : ∃ x, (ownCalWrite c i s).state = { s with cal := x } := by
  unfold ownCalWrite
  split
  · split
    · exact ⟨_, rfl⟩
    · split <;> exact ⟨_, rfl⟩
  · exact ⟨_, rfl⟩

theorem ownCalLength_calendar : ∃ x, (ownCalLength c i s).state = { s with cal := x } := by
  unfold ownCalLength
  split
  · split <;> exact ⟨_, rfl⟩
  · exact ⟨_, rfl⟩

theorem ownCalCopy_calendar : ∃ x, (ownCalCopy c i s).state = { s with cal := x } := by
  unfold ownCalCopy
  split <;> exact ⟨_, rfl⟩

theorem ownCalCommit_calendar : ∃ x, (ownCalCommit c i s).state = { s with cal := x } := by
  unfold ownCalCommit
  split
  · exact ⟨_, rfl⟩
  · split <;> exact ⟨_, rfl⟩

theorem ownCalCancel_calendar : ∃ x, (ownCalCancel c i s).state = { s with cal := x } := by
  unfold ownCalCancel
  split <;> exact ⟨_, rfl⟩

/-! ### The commands that reach nothing the laws read (R20 to R22, R40 to R47, R66, R146) -/

theorem ownMeterSet_leavesControl : s.LeavesControl (ownMeterSet c i s).state := by
  unfold ownMeterSet
  split
  · exact .refl s
  · split
    · exact .refl s
    · split_ifs
      · exact .refl s
      · exact .refl s
      · rw [State.writeMeter_eq (s := s) rfl]
        exact .refl s

theorem setRunState_leavesControl (running : Bool) : s.LeavesControl (setRunState running c s).state := by
  unfold setRunState
  split
  · exact .refl s
  · rw [State.setRunning_eq running _ (u := s) rfl]
    exact .refl s

theorem ownMeterReload_leavesControl : s.LeavesControl (ownMeterReload c i s).state := by
  unfold ownMeterReload
  split <;> exact .refl s

theorem ownQueueSet_leavesControl : s.LeavesControl (ownQueueSet c i s).state := by
  unfold ownQueueSet
  split
  · exact .refl s
  · split
    · exact .refl s
    · split <;> exact .refl s

theorem ownRestart_leavesControl : s.LeavesControl (ownRestart c i s).state := by
  unfold ownRestart
  split <;> exact .refl s

theorem ownStreamAdd_leavesControl : s.LeavesControl (ownStreamAdd c i s).state := by
  unfold ownStreamAdd
  split
  · exact .refl s
  · split
    · exact .refl s
    · split <;> exact .refl s

theorem ownStreamSet_leavesControl : s.LeavesControl (ownStreamSet c i s).state := by
  unfold ownStreamSet
  split
  · exact .refl s
  · simp only
    split
    · exact .refl s
    · exact .refl s
    · split
      · exact .refl s
      · split <;> exact .refl s

theorem ownStreamRemove_leavesControl : s.LeavesControl (ownStreamRemove c i s).state := by
  unfold ownStreamRemove
  split
  · exact .refl s
  · simp only
    split
    · exact .refl s
    · exact .refl s
    · split <;> simp

end

/-! ### The commands of the Event Unit, and SET (R143, R171 to R175) -/

theorem ownEventClear_keepsControlLaws : OwnKeepsControlLaws ownEventClear := fun c i s h _ => by
  unfold ownEventClear
  split
  · exact h
  · exact h.withEvents (h.report.setFlags _)

theorem ownReportAck_keepsControlLaws : OwnKeepsControlLaws ownReportAck := fun c i s h _ => by
  simp only [ownReportAck]
  split_ifs
  · exact h
  · exact h
  · exact h
  · exact h
  · exact h.withEvents (.acknowledge _ _)

theorem ownReportRearm_keepsControlLaws : OwnKeepsControlLaws ownReportRearm := fun c i s h _ => by
  unfold ownReportRearm
  split_ifs
  · exact h
  · exact h.withEvents (.toIdle _ _)
  · exact h

theorem ownSet_keepsControlLaws : OwnKeepsControlLaws ownSet := fun c i s h _ => by
  unfold ownSet
  split
  · exact h
  · split
    · exact h
    · split
      · exact h
      · exact (h.withEvents (h.report.settingsChanged _ _)).of_leaves (.refl _)

/-! ### The session commands and the snapshot buffer (R135 to R137, R140, R141, R154 to R158) -/

theorem ownClose_keepsControlLaws : OwnKeepsControlLaws ownClose := fun _ i _ h _ => h.teardown i

theorem ownClaim_keepsControlLaws : OwnKeepsControlLaws ownClaim := fun c i s h hi => by
  unfold ownClaim
  split
  · exact h.withSessions rfl rfl (h.sessions.setClaim hi)
  · split <;> exact h

theorem ownRelease_keepsControlLaws : OwnKeepsControlLaws ownRelease := fun c i s h _ => by
  unfold ownRelease
  split
  · exact h.withSessions rfl rfl h.sessions.freeClaim
  · exact h

theorem ownSnapTake_keepsControlLaws : OwnKeepsControlLaws ownSnapTake := fun c i s h hi => by
  unfold ownSnapTake
  split
  · exact h
  · split
    · exact h
    · next hok =>
      simp only [Bool.or_eq_true, Bool.not_eq_true', not_or, Bool.not_eq_false] at hok
      obtain ⟨-, hrange⟩ := hok
      split
      · exact h
      · obtain ⟨hpos, hmax⟩ := snapRecords_length s hrange
        exact h.withSessions rfl rfl (h.sessions.takeSnapshot _ _ _ _ hi (List.ne_nil_of_length_pos hpos) hmax)

theorem ownSnapRelease_keepsControlLaws : OwnKeepsControlLaws ownSnapRelease := fun c i s h _ => by
  unfold ownSnapRelease
  split
  · exact h
  · split
    · exact h.withSessions rfl rfl h.sessions.emptySnapshot
    · exact h

theorem bodyDiscover_keepsControlLaws (c : Control) : KeepsControlLaws (bodyDiscover c) := fun s h => by
  simp only [bodyDiscover]
  split
  · next i _ => exact (h.restartIdle i).of_leaves (.refl _)
  · exact h.of_leaves (.refl s)

/-- R136: a new session in an entry of its own node, or for a node that has none. -/
theorem State.ControlLaws.newSession {s : State} {c : Control} {i : Fin 4} (h : s.ControlLaws)
    (hnew : ∀ j, j ≠ i → s.managerOf j ≠ some (c.src.setWidth 6)) : (s.newSession c i).ControlLaws :=
  have hopened (k : ControlCell) : (s.setSession i (some
      { manager := c.src.setWidth 6, lastSeq := c.seq, cached := k, idleTimer := 0 })).ControlLaws :=
    h.withSessions rfl rfl (h.sessions.openSession hnew)
  (hopened _).of_leaves (.refl _)

/-- R136: the four cases of OPEN. -/
theorem bodyOpen_keepsControlLaws (c : Control) : KeepsControlLaws (bodyOpen c) := fun s h => by
  unfold bodyOpen
  split
  · next i hi =>
    split
    · exact h
    · split
      · exact (h.restartIdle i).of_leaves (.refl _)
      · refine ((h.teardown i).hand .sessionEnded).newSession fun j hj hm => ?_
        have hkept : ((s.teardown i).hand .sessionEnded).managerOf j = s.managerOf j :=
          State.managerOf_congr (by simp [State.teardown_eq, Table.get_set_ne _ _ hj.symm])
        exact hj (h.sessions.sessions.1 j i _ (hkept ▸ hm) (State.sessionOf_some hi))
  · next hnone =>
    split
    · exact h.newSession fun j _ => State.sessionOf_none hnone j
    · exact h.of_leaves (.refl s)

/-! ### Every command, and the step -/

/-- R74, R129, R153, R163, R170: every command keeps the laws. -/
theorem exec_keepsControlLaws (c : Instr) (s : State) (h : s.ControlLaws) : ∃ t, exec c s = .next t ∧ t.ControlLaws :=
  match c with
  | .powerOn => ⟨_, rfl, .of_powerOn rfl rfl rfl rfl⟩
  | .resetPinRelease straps => ⟨_, rfl, h.of_leaves (releasePin_leavesControl straps s)⟩
  | .huntWindowTest b => ⟨_, rfl, KeepsControlLaws.live_of_leaves (huntByte_leavesControl b) s h⟩
  | .headerTest w => ⟨_, rfl, KeepsControlLaws.live_of_leaves (testHeader_leavesControl w) s h⟩
  | .ringCellArrival p => ⟨_, rfl, KeepsControlLaws.live_of_leaves (handOn_leavesControl p) s h⟩
  | .slotSourceEvent m => ⟨_, rfl, KeepsControlLaws.live_of_leaves (takeSourceOperand_leavesControl _ m) s h⟩
  | .markSourceEvent _ m => ⟨_, rfl, KeepsControlLaws.live_of_leaves (takeSourceOperand_leavesControl _ m) s h⟩
  | .cascadeSourceEvent _ m => ⟨_, rfl, KeepsControlLaws.live_of_leaves (takeSourceOperand_leavesControl _ m) s h⟩
  | .meterExpiry m => ⟨_, rfl, KeepsControlLaws.live_of_leaves (takeExpiry_leavesControl m) s h⟩
  | .addWordFirst w => ⟨_, rfl, KeepsControlLaws.live_of_leaves (addFirst_leavesControl w) s h⟩
  | .addWordContinue w => ⟨_, rfl, KeepsControlLaws.live_of_leaves (addContinue_leavesControl w) s h⟩
  | .localCellArrival => ⟨_, rfl, KeepsControlLaws.live_of_leaves localArrival_leavesControl s h⟩
  | .dropTake => ⟨_, rfl, KeepsControlLaws.live_of_leaves takeDrop_leavesControl s h⟩
  | .slotEvent => ⟨_, rfl, slotEvent_keepsControlLaws.live s h⟩
  | .sessionTick => ⟨_, rfl, takeSessionTick_keepsControlLaws.live s h⟩
  | .sessionExpiry => ⟨_, rfl, takeSessionExpiry_keepsControlLaws.live s h⟩
  | .eventUnitTick => ⟨_, rfl, takeEventTick_keepsControlLaws.live s h⟩
  | .reportTimeout => ⟨_, rfl, takeTimeout_keepsControlLaws.live s h⟩
  | .slotCompletion straps => ⟨_, rfl, (completeSlot_keepsControlLaws straps).live s h⟩
  | .reportSendingComplete => ⟨_, rfl, sendingComplete_keepsControlLaws.live s h⟩
  | .eventFlagSet f => ⟨_, rfl, by
      split
      · exact h
      · exact setFlag_keepsControlLaws f s h⟩
  | .reportBuild => ⟨_, rfl, buildReport_keepsControlLaws.live s h⟩
  | .reportIssue => ⟨_, rfl, issueReport_keepsControlLaws.live s h⟩
  | .badOp => ⟨_, rfl, unchanged_keepsControlLaws (fun _ _ _ => rfl) s h⟩
  | .discover => ⟨_, rfl, (KeepsControlLaws.execution bodyDiscover_keepsControlLaws).live s h⟩
  | .openSession => ⟨_, rfl, (KeepsControlLaws.execution bodyOpen_keepsControlLaws).live s h⟩
  | .closeSession => ⟨_, rfl, intake_keepsControlLaws ownClose_keepsControlLaws s h⟩
  | .ping => ⟨_, rfl, unchanged_keepsControlLaws (fun _ _ _ => rfl) s h⟩
  | .claim => ⟨_, rfl, intake_keepsControlLaws ownClaim_keepsControlLaws s h⟩
  | .release => ⟨_, rfl, intake_keepsControlLaws ownRelease_keepsControlLaws s h⟩
  | .set => ⟨_, rfl, intake_keepsControlLaws ownSet_keepsControlLaws s h⟩
  | .get => ⟨_, rfl, unchanged_keepsControlLaws ownGet_state s h⟩
  | .status => ⟨_, rfl, unchanged_keepsControlLaws (fun _ _ _ => rfl) s h⟩
  | .restart => ⟨_, rfl, offControl_keepsControlLaws ownRestart_leavesControl s h⟩
  | .streamAdd => ⟨_, rfl, offControl_keepsControlLaws ownStreamAdd_leavesControl s h⟩
  | .streamSet => ⟨_, rfl, offControl_keepsControlLaws ownStreamSet_leavesControl s h⟩
  | .streamRemove => ⟨_, rfl, offControl_keepsControlLaws ownStreamRemove_leavesControl s h⟩
  | .streamRead => ⟨_, rfl, unchanged_keepsControlLaws ownStreamRead_state s h⟩
  | .streamFind => ⟨_, rfl, unchanged_keepsControlLaws ownStreamFind_state s h⟩
  | .meterSet => ⟨_, rfl, offControl_keepsControlLaws ownMeterSet_leavesControl s h⟩
  | .meterRead => ⟨_, rfl, unchanged_keepsControlLaws ownMeterRead_state s h⟩
  | .meterHold => ⟨_, rfl, offControl_keepsControlLaws (fun c _ s => setRunState_leavesControl c s false) s h⟩
  | .meterRun => ⟨_, rfl, offControl_keepsControlLaws (fun c _ s => setRunState_leavesControl c s true) s h⟩
  | .meterReload => ⟨_, rfl, offControl_keepsControlLaws ownMeterReload_leavesControl s h⟩
  | .queueSet => ⟨_, rfl, offControl_keepsControlLaws ownQueueSet_leavesControl s h⟩
  | .queueRead => ⟨_, rfl, unchanged_keepsControlLaws ownQueueRead_state s h⟩
  | .calWrite => ⟨_, rfl, calendar_keepsControlLaws ownCalWrite_calendar (fun _ _ _ => ownCalWrite_scheduleLaws) s h⟩
  | .calLength => ⟨_, rfl, calendar_keepsControlLaws ownCalLength_calendar (fun _ _ _ => ownCalLength_scheduleLaws) s h⟩
  | .calCopy => ⟨_, rfl, calendar_keepsControlLaws ownCalCopy_calendar (fun _ _ _ => ownCalCopy_scheduleLaws) s h⟩
  | .calRead => ⟨_, rfl, unchanged_keepsControlLaws ownCalRead_state s h⟩
  | .calCommit => ⟨_, rfl, calendar_keepsControlLaws ownCalCommit_calendar (fun _ _ _ => ownCalCommit_scheduleLaws) s h⟩
  | .calCancel => ⟨_, rfl, calendar_keepsControlLaws ownCalCancel_calendar (fun _ _ _ => ownCalCancel_scheduleLaws) s h⟩
  | .snapTake => ⟨_, rfl, intake_keepsControlLaws ownSnapTake_keepsControlLaws s h⟩
  | .snapRead => ⟨_, rfl, unchanged_keepsControlLaws ownSnapRead_state s h⟩
  | .snapRelease => ⟨_, rfl, intake_keepsControlLaws ownSnapRelease_keepsControlLaws s h⟩
  | .eventRead => ⟨_, rfl, unchanged_keepsControlLaws (fun _ _ _ => rfl) s h⟩
  | .eventClear => ⟨_, rfl, intake_keepsControlLaws ownEventClear_keepsControlLaws s h⟩
  | .reportAck => ⟨_, rfl, intake_keepsControlLaws ownReportAck_keepsControlLaws s h⟩
  | .reportRearm => ⟨_, rfl, intake_keepsControlLaws ownReportRearm_keepsControlLaws s h⟩

/-- A step keeps the laws: the command at the front of the queue does, and so does an edge of LCLK. -/
theorem step_keepsControlLaws {s t : State} (h : s.ControlLaws) (hstep : step s = .next t) : t.ControlLaws := by
  unfold step at hstep
  split at hstep
  · cases hstep
    exact h.of_leaves (.refl s)
  · next c rest _ =>
    obtain ⟨u, hu, hlaws⟩ := exec_keepsControlLaws c { s with pending := rest } (h.of_leaves (.refl s))
    cases hu.symm.trans hstep
    exact hlaws

/-- Settles O59: the laws together are the invariant `State.ControlLaws`, kept by each block's own invariant. -/
theorem sessionCalendarReportLawsKept : Obligations.SessionCalendarReportLawsKept := by
  intro s t l7 l8 l9 l12 renewed hstep
  have hlaws : s.ControlLaws := ⟨State.reportLaws_iff.2 ⟨l7, renewed⟩, State.scheduleLaws_iff.2 l9, ⟨l8, l12⟩⟩
  obtain ⟨report, schedule, sessions⟩ := step_keepsControlLaws hlaws hstep
  obtain ⟨l7, renewed⟩ := State.reportLaws_iff.1 report
  exact ⟨l7, sessions.sessions, State.scheduleLaws_iff.1 schedule, sessions.snapshot, renewed⟩

end Sys2Proof.Machine
end

section
/-! PROOF. The completion of a slot (R53, R61, R84, R107, R168). -/

namespace Sys2Proof.Machine

-- One proof body at a time: each thread reserves memory, and the whole text as one file comes close to the limit of the check.
set_option Elab.async false

/-- R84, R107: a completion without a restart comes to `t`, where finishing the cell alone does. -/
theorem exec_slotCompletion_unmarked {s t : State} {c : TxCell} (straps : BitVec 6) (hheld : s.resetHeld = false)
    (hin : s.cal.inTx = some c) (hmark : c.mark = none) (hfinish : s.unflagged.finishTx c = t.unflagged)
    (ht : t.handover.flags = s.handover.flags) : exec (.slotCompletion straps) s = .next t := by
  show Host.Outcome.next (live (State.completeSlot straps) s) = _
  have hin' : s.unflagged.cal.inTx = some c := hin
  rw [live_running hheld, oneEvent_silent _ ht]
  simp only [State.completeSlot, hin', hmark, hfinish]

/-- R168: a report that is completed is counted, and its SEQ is handed to the Event Unit. -/
theorem State.finishTx_report {s : State} {k : EgressCell} (h : k.producer = .report) : s.finishTx (.control k) =
    { s with
      cal := { s.cal with inTx := none }
      tx := { s.tx with bytePosition := 31 }
      counters := (s.countDevice .cellsSent).counters
      handover := { s.handover with
        reportsSent := s.handover.reportsSent ++ [(Control.ofPayload k.cell.payload).seq] } } := if_pos h

/-- R84: a CONTROL cell that is no report is counted, and no more. -/
theorem State.finishTx_control {s : State} {k : EgressCell} (h : k.producer ≠ .report) : s.finishTx (.control k) =
    ({ s with cal := { s.cal with inTx := none }, tx := { s.tx with bytePosition := 31 } } : State).countDevice .cellsSent :=
  if_neg h

/-- Settles O25, by the kind of the cell in transmission. -/
theorem slotCompletion : Obligations.SlotCompletion := by
  intro s straps hheld done
  refine ⟨fun c q hin => ?pool, fun k hin hmark hk => ?control, fun k hin hmark hk => ?report, fun hin => ?idle⟩
  case pool => exact exec_slotCompletion_unmarked straps hheld hin rfl rfl rfl
  case control => exact exec_slotCompletion_unmarked straps hheld hin hmark (State.finishTx_control hk) rfl
  case report => exact exec_slotCompletion_unmarked straps hheld hin hmark (State.finishTx_report hk) rfl
  case idle => exact exec_slotCompletion_unmarked straps hheld hin rfl rfl rfl

end Sys2Proof.Machine
end

section
/-! PROOF. The consulting of queues one after another, and the selection of a slot's cell (R77 to R81). -/

namespace Sys2Proof.Machine

-- One proof body at a time: each thread reserves memory, and the whole text as one file comes close to the limit of the check.
set_option Elab.async false

/-! ### What a consultation reads -/

/-- State `t` has the stream entries and the egress queues of `s`: all that a consultation reads. -/
structure State.SameQueues (s t : State) : Prop where
  streams : t.streams = s.streams
  queues  : t.pool.queues = s.pool.queues

namespace State.SameQueues

variable {s t : State}

theorem queue (h : s.SameQueues t) (q : Fin 8) : t.queue q = s.queue q := State.queue_congr h.queues q

theorem purgeOne (h : s.SameQueues t) (q : Fin 8) (c : QueuedCell) (rest : List QueuedCell) :
    (s.purgeOne q c rest).SameQueues (t.purgeOne q c rest) where
  streams := Table.ext_get fun i => by rw [State.purgeOne_streams, State.purgeOne_streams, h.streams]
  queues := by rw [State.purgeOne_pool, State.purgeOne_pool, h.queue, h.queues]

theorem purgeFrom (q : Fin 8) (cs : List QueuedCell) (h : s.SameQueues t) : (purgeFrom q cs s).SameQueues (purgeFrom q cs t) := by
  induction cs generalizing s t with
  | nil => exact h
  | cons c cs ih =>
    have hp : t.purges c = s.purges c := by simp only [State.purges, h.streams]
    unfold Machine.purgeFrom
    rw [hp]
    split
    · exact ih (h.purgeOne q c cs)
    · exact h

theorem consult (h : s.SameQueues t) (q : Fin 8) : (s.consult q).SameQueues (t.consult q) := by
  rw [State.consult, State.consult, h.queue]
  exact h.purgeFrom q _

theorem consultAll (qs : List (Fin 8)) (h : s.SameQueues t) :
    (qs.foldl State.consult s).SameQueues (qs.foldl State.consult t) := by
  induction qs generalizing s t with
  | nil => exact h
  | cons q qs ih => exact ih (h.consult q)

end State.SameQueues

/-! ### What a consultation leaves -/

theorem State.consult_queue_ne (s : State) {p q : Fin 8} (h : p ≠ q) : (s.consult q).queue p = s.queue p :=
  (purgeFrom_queue q _ s rfl).2.1 p h

/-- R78: a purge takes cells from a queue, and leaves its settings. -/
theorem purgeFrom_fill (q p : Fin 8) (cs : List QueuedCell) (s : State) : ((purgeFrom q cs s).queue p).fill = (s.queue p).fill := by
  induction cs generalizing s with
  | nil => rfl
  | cons c cs ih =>
    unfold purgeFrom
    split
    · rw [ih]
      by_cases hp : p = q
      · rw [hp, State.purgeOne_queue_self]
      · rw [State.purgeOne_queue_ne s q cs c hp]
    · rfl

theorem State.consult_fill (s : State) (q p : Fin 8) : ((s.consult q).queue p).fill = (s.queue p).fill := purgeFrom_fill q p _ s

theorem State.consultAll_fill (qs : List (Fin 8)) (s : State) (p : Fin 8) :
    ((qs.foldl State.consult s).queue p).fill = (s.queue p).fill :=
  List.foldlRecOn (motive := fun t : State => (t.queue p).fill = (s.queue p).fill) qs _ rfl
    fun t ht q _ => (t.consult_fill q p).trans ht

/-- R79: a consultation makes no cell one that is to be purged. -/
theorem State.purges_of_consult {s : State} {q : Fin 8} {d : QueuedCell} (h : (s.consult q).purges d = true) : s.purges d = true := by
  have hpurge (cs : List QueuedCell) (t : State) (ht : (purgeFrom q cs t).purges d = true) : t.purges d = true := by
    induction cs generalizing t with
    | nil => exact ht
    | cons c cs ih =>
      unfold purgeFrom at ht
      split at ht
      · exact State.purges_of_purgeOne (ih _ ht)
      · exact ht
  exact hpurge _ s h

/-- R79: Q`q` has no head that is to be purged. -/
def State.Settled (s : State) (q : Fin 8) : Prop := ∀ c, (s.queue q).cells.head? = some c → s.purges c = false

theorem State.consult_settled (s : State) (q : Fin 8) : (s.consult q).Settled q := by
  obtain ⟨_, _, _, hhead⟩ := purgeFrom_purged q _ s rfl
  exact hhead

/-- R79: a queue without a head to be purged gives nothing up when it is consulted. -/
theorem State.Settled.consult_self {s : State} {q : Fin 8} (h : s.Settled q) : s.consult q = s := by
  unfold State.consult
  cases hc : (s.queue q).cells with
  | nil => rfl
  | cons c rest => exact purgeFrom_stop q rest (h c (by rw [hc]; rfl))

/-- A queue that has been consulted stays as it is, whatever is consulted after it. -/
theorem State.Settled.consultAll {q : Fin 8} (qs : List (Fin 8)) {s : State} (h : s.Settled q) :
    (qs.foldl State.consult s).queue q = s.queue q := by
  induction qs generalizing s with
  | nil => rfl
  | cons p qs ih =>
    rw [List.foldl_cons]
    by_cases hp : q = p
    · rw [← hp, h.consult_self]
      exact ih h
    · have hq : (s.consult p).queue q = s.queue q := s.consult_queue_ne hp
      rw [ih fun c hc => ?_, hq]
      rw [hq] at hc
      exact Bool.eq_false_iff.2 fun hpurge => Bool.false_ne_true ((h c hc).symm.trans (State.purges_of_consult hpurge))

/-! ### A head is taken, and fill (R78, R80) -/

theorem State.takeHead_nil {s : State} {q : Fin 8} (h : (s.queue q).cells = []) : s.takeHead q = (none, s) := by
  simp [State.takeHead, h]

theorem State.takeHead_cons {s : State} {q : Fin 8} {c : QueuedCell} {rest : List QueuedCell} (h : (s.queue q).cells = c :: rest) :
    s.takeHead q = (some (.pool c q), s.dequeued q c rest) := by
  simp [State.takeHead, h, State.dequeued]

theorem fillFrom_skip {q : Fin 8} {s : State} (qs : List (Fin 8)) (h : (s.queue q).fill = false) :
    fillFrom (q :: qs) s = fillFrom qs s := by
  simp [fillFrom, h]

theorem fillFrom_empty {q : Fin 8} {s : State} (qs : List (Fin 8)) (hfill : (s.queue q).fill = true)
    (h : ((s.consult q).queue q).cells = []) : fillFrom (q :: qs) s = fillFrom qs (s.consult q) := by
  simp [fillFrom, hfill, State.takeHead_nil h]

theorem fillFrom_head {q : Fin 8} {s : State} {c : QueuedCell} {rest : List QueuedCell} (qs : List (Fin 8))
    (hfill : (s.queue q).fill = true) (h : ((s.consult q).queue q).cells = c :: rest) :
    fillFrom (q :: qs) s = (some (.pool c q), (s.consult q).dequeued q c rest) := by
  simp [fillFrom, hfill, State.takeHead_cons h]

/-- R78: fill passes the queues `ps` by where each of them that fill considers is left without a cell; they are consulted on the way. -/
theorem fillFrom_passes {fills : Fin 8 → Bool} (ps qs : List (Fin 8)) {s : State} (hf : ∀ q, (s.queue q).fill = fills q)
    (hempty : ∀ q ∈ ps, fills q = true → (((ps.filter fills).foldl State.consult s).queue q).cells = []) :
    fillFrom (ps ++ qs) s = fillFrom qs ((ps.filter fills).foldl State.consult s) := by
  induction ps generalizing s with
  | nil => rfl
  | cons p ps ih =>
    rw [List.cons_append]
    by_cases hp : fills p = true
    · rw [List.filter_cons_of_pos hp, List.foldl_cons] at hempty ⊢
      have hnone := hempty p List.mem_cons_self hp
      rw [(s.consult_settled p).consultAll] at hnone
      rw [fillFrom_empty _ ((hf p).trans hp) hnone]
      exact ih (fun q => (s.consult_fill p q).trans (hf q)) fun q hq => hempty q (List.mem_cons_of_mem _ hq)
    · rw [List.filter_cons_of_neg hp] at hempty ⊢
      rw [fillFrom_skip _ ((hf p).trans (Bool.eq_false_iff.2 hp))]
      exact ih hf fun q hq => hempty q (List.mem_cons_of_mem _ hq)

/-! ### The choice by the kind of the calendar entry (R77, R80, R81) -/

/-- R77: the queue that a PREFERRED entry offers the slot to before fill. -/
def CalEntry.named (e : CalEntry) : List (Fin 8) := if e.kind = .preferred then [e.queue] else []

section
variable {s : State} {e : CalEntry}

theorem State.choose_fixed (h : e.kind = .fixed) : s.choose e = (s.consult e.queue).takeHead e.queue := by
  simp [State.choose, h]

theorem State.takeControl_nil (h : s.engine.egress = []) : s.takeControl = (none, s) := by simp [State.takeControl, h]

theorem State.takeControl_cons {k : EgressCell} {rest : List EgressCell} (h : s.engine.egress = k :: rest) :
    s.takeControl = (some (.control k), { s with engine := { s.engine with egress := rest } }) := by simp [State.takeControl, h]

theorem State.choose_control {k : EgressCell} {rest : List EgressCell} (hk : e.kind ≠ .fixed) (h : s.engine.egress = k :: rest) :
    s.choose e = (some (.control k), { s with engine := { s.engine with egress := rest } }) := by
  cases he : e.kind with
  | fixed => exact absurd he hk
  | preferred => simp [State.choose, he, State.takeControl_cons h]
  | open_ => simp [State.choose, he, State.takeControl_cons h]

/-- R77, R80: the named queue's head is chosen. -/
theorem State.choose_named {c : QueuedCell} {rest : List QueuedCell}
    (hk : e.kind = .fixed ∨ e.kind = .preferred ∧ s.engine.egress = []) (h : ((s.consult e.queue).queue e.queue).cells = c :: rest) :
    s.choose e = (some (.pool c e.queue), (s.consult e.queue).dequeued e.queue c rest) := by
  rcases hk with hk | ⟨hk, hegress⟩
  · rw [State.choose_fixed hk, State.takeHead_cons h]
  · simp [State.choose, hk, State.takeControl_nil hegress, State.takeHead_cons h]

/-- R78: without a control cell, and without a cell in the named queue, fill chooses. -/
theorem State.choose_fills (hk : e.kind ≠ .fixed) (hegress : s.engine.egress = [])
    (h : ∀ p ∈ e.named, ((s.consult p).queue p).cells = []) : s.choose e = fillFrom fillOrder (e.named.foldl State.consult s) := by
  cases he : e.kind with
  | fixed => exact absurd he hk
  | preferred =>
    have hnamed : e.named = [e.queue] := if_pos he
    rw [hnamed] at h ⊢
    simp [State.choose, he, State.takeControl_nil hegress, State.takeHead_nil (h _ (List.mem_singleton_self _))]
  | open_ =>
    have hnamed : e.named = [] := if_neg (by simp [he])
    rw [hnamed]
    simp [State.choose, he, State.takeControl_nil hegress]

end

/-! ### Fill with the named queue before it (R77, R78) -/

/-- R77 to R79: the queues that the selection has reached when fill comes to Q`q`: the named queue, and up to Q`q` those with fill yes. -/
def CalEntry.reached (e : CalEntry) (fills : Fin 8 → Bool) (q : Fin 8) : List (Fin 8) :=
  e.named ++ (List.finRange 8).filter fun p => decide (p ≤ q) && fills p

/-- The queues below Q`q`, in ascending index. -/
def queuesBelow (q : Fin 8) : List (Fin 8) := (List.finRange 8).filter (· < q)

theorem fillOrder_split : ∀ q : Fin 8, fillOrder = queuesBelow q ++ q :: (List.finRange 8).filter (q < ·) := by decide

theorem filter_upTo (fills : Fin 8 → Bool) (q : Fin 8) : ((List.finRange 8).filter fun p => decide (p ≤ q) && fills p) =
    ((List.finRange 8).filter fun p => decide (p ≤ q)).filter fills := by
  simp only [List.filter_filter, Bool.and_comm]

theorem upTo_eq_below : ∀ q : Fin 8, ((List.finRange 8).filter fun p => decide (p ≤ q)) = queuesBelow q ++ [q] := by decide

theorem CalEntry.reached_eq (e : CalEntry) {fills : Fin 8 → Bool} {q : Fin 8} (h : fills q = true) :
    e.reached fills q = e.named ++ (queuesBelow q).filter fills ++ [q] := by
  rw [CalEntry.reached, filter_upTo, upTo_eq_below, List.filter_append, List.filter_singleton, h]
  simp

theorem CalEntry.reached_last (e : CalEntry) (fills : Fin 8 → Bool) : e.reached fills 7 = e.named ++ fillOrder.filter fills := by
  rw [CalEntry.reached, filter_upTo]
  rfl

/-- R77: the named queue was consulted first, and what fill consults after it leaves it as it was then. -/
theorem CalEntry.named_empty {e : CalEntry} {s : State} {qs : List (Fin 8)}
    (h : ∀ p ∈ e.named, (((e.named ++ qs).foldl State.consult s).queue p).cells = []) :
    ∀ p ∈ e.named, ((s.consult p).queue p).cells = [] := by
  unfold CalEntry.named at h ⊢
  split
  · intro p hp
    obtain rfl := List.mem_singleton.1 hp
    have hnone := h e.queue (by simp [*])
    rw [if_pos (by assumption), List.singleton_append, List.foldl_cons, (s.consult_settled e.queue).consultAll] at hnone
    exact hnone
  · nofun

section
variable {s : State} {e : CalEntry} {fills : Fin 8 → Bool}

/-- R78: the lowest queue with fill yes that is left with a cell gives it up. -/
theorem State.choose_fill {q : Fin 8} {c : QueuedCell} {rest : List QueuedCell} (hk : e.kind ≠ .fixed)
    (hegress : s.engine.egress = []) (hf : ∀ p, (s.queue p).fill = fills p) (hq : fills q = true)
    (hnamed : ∀ p ∈ e.named, (((e.reached fills q).foldl State.consult s).queue p).cells = [])
    (hbelow : ∀ p, p < q → fills p = true → (((e.reached fills q).foldl State.consult s).queue p).cells = [])
    (hhead : (((e.reached fills q).foldl State.consult s).queue q).cells = c :: rest) :
    s.choose e = (some (.pool c q), ((e.reached fills q).foldl State.consult s).dequeued q c rest) := by
  have hreached := e.reached_eq hq
  rw [hreached, List.append_assoc] at hnamed
  rw [hreached, List.foldl_append, List.foldl_append] at hbelow hhead ⊢
  have hfill (p : Fin 8) : ((e.named.foldl State.consult s).queue p).fill = fills p := (s.consultAll_fill _ p).trans (hf p)
  rw [State.choose_fills hk hegress (CalEntry.named_empty hnamed), fillOrder_split q, fillFrom_passes _ _ hfill fun p hp hfp => ?_]
  · exact fillFrom_head _ ((State.consultAll_fill _ _ q).trans ((hfill q).trans hq)) hhead
  · have hlt : p < q := of_decide_eq_true (List.mem_filter.1 hp).2
    rw [← State.consult_queue_ne _ hlt.ne]
    exact hbelow p hlt hfp

/-- R78: where every queue with fill yes is left without a cell, there is no choice. -/
theorem State.choose_none (hk : e.kind ≠ .fixed) (hegress : s.engine.egress = []) (hf : ∀ p, (s.queue p).fill = fills p)
    (hnamed : ∀ p ∈ e.named, (((e.reached fills 7).foldl State.consult s).queue p).cells = [])
    (hnone : ∀ p, fills p = true → (((e.reached fills 7).foldl State.consult s).queue p).cells = []) :
    s.choose e = (none, (e.reached fills 7).foldl State.consult s) := by
  rw [e.reached_last] at hnamed hnone ⊢
  rw [List.foldl_append] at hnone ⊢
  have hfill (p : Fin 8) : ((e.named.foldl State.consult s).queue p).fill = fills p := (s.consultAll_fill _ p).trans (hf p)
  have hpass := fillFrom_passes fillOrder [] hfill fun p _ hfp => hnone p hfp
  rw [List.append_nil] at hpass
  rw [State.choose_fills hk hegress (CalEntry.named_empty hnamed), hpass]
  rfl

end

end Sys2Proof.Machine
end

section
/-! PROOF. What a slot carries (R75 to R81), and law L10. -/

namespace Sys2Proof.Machine

-- One proof body at a time: each thread reserves memory, and the whole text as one file comes close to the limit of the check.
set_option Elab.async false

/-! ### The slot event as a choice -/

/-- R29, R108: the state in which a slot event chooses, after its source event and its tick. -/
def State.choosing (s : State) : State := s.unflagged.slotSource.countSlot

theorem State.choosing_eq (s : State) : s.choosing = { s with
    bank := s.choosing.bank, tx := s.choosing.tx, handover := s.choosing.handover } := by
  rw [State.choosing, State.slotSource_eq, State.countSlot_eq]
  rfl

theorem State.choosing_sameQueues (s : State) : s.SameQueues s.choosing := by
  rw [State.choosing_eq]
  exact ⟨rfl, rfl⟩

theorem State.choosing_engine (s : State) : s.choosing.engine = s.engine := by rw [State.choosing_eq]

/-- R75, R76: the calendar entry that the slot is offered by. -/
def State.slotEntry (s : State) : CalEntry := s.cal.activeBank.entry s.cal.position

section
variable {s : State}

theorem State.slotEvent_choice (hin : s.cal.inTx = none) :
    s.unflagged.slotEvent =
      (s.choosing.choose s.slotEntry).2.advance.transmit ((s.choosing.choose s.slotEntry).1.getD .idle) := by
  have hin' : s.unflagged.cal.inTx = none := hin
  have hcal : s.choosing.cal = s.cal := by rw [State.choosing_eq]
  simp only [State.slotEvent, hin', State.slotEntry, ← hcal]
  rfl

/-- R75: a slot event whose choice is `r`, where the selection comes to `took`. -/
theorem exec_slotEvent {r : Option TxCell} (took : State → State) (hheld : s.resetHeld = false) (hin : s.cal.inTx = none)
    (h : s.choosing.choose s.slotEntry = (r, took s.choosing)) : exec .slotEvent s =
      .next (oneEvent (fun z => (took z.slotSource.countSlot).advance.transmit (r.getD .idle)) s) := by
  show Host.Outcome.next (live State.slotEvent s) = _
  rw [live_running hheld]
  refine congrArg _ (oneEvent_congr ?_)
  rw [State.slotEvent_choice hin, h]
  rfl

end

/-! ### What a slot carries -/

/-- Settles O21: each clause is one case of the choice, whose conditions read the queues as they stood before the slot event. -/
theorem slotCarries : Obligations.SlotCarries := by
  intro s hheld hin e sends head cells fills named upTo
  have hsame := s.choosing_sameQueues
  have hfills (p : Fin 8) : (s.choosing.queue p).fill = fills p := by rw [hsame.queue]; rfl
  have hhead (q : Fin 8) (c : QueuedCell) (rest : List QueuedCell) (z : State) : head q c rest z = z.dequeued q c rest := rfl
  have hupTo (q : Fin 8) (z : State) : upTo q z = (e.reached fills q).foldl State.consult z := rfl
  have hnamed (p : Fin 8) : ((s.choosing.consult p).queue p).cells = cells (s.consult p) p :=
    congrArg EgressQueue.cells ((hsame.consult p).queue p)
  have hcells (q p : Fin 8) : ((upTo q s.choosing).queue p).cells = cells (upTo q s) p := by
    rw [hupTo, hupTo, (hsame.consultAll _).queue]
    rfl
  have hegress {es : List EgressCell} (h : s.engine.egress = es) : s.choosing.engine.egress = es := by rwa [s.choosing_engine]
  have hsends {r : Option TxCell} {took : State → State} (h : s.choosing.choose e = (r, took s.choosing)) :
      sends (r.getD .idle) took := exec_slotEvent took hheld hin h
  clear_value sends head cells upTo
  refine ⟨fun k rest hk hk' => ?control, fun c rest hk hc => ?named, fun hk hc => ?fixedIdle,
    fun q c rest hk hnil hq hown hbelow hc => ?fill, fun hk hnil hown hnone => ?idle⟩
  case control => exact hsends (r := some _) (State.choose_control hk (hegress hk'))
  case named =>
    refine hsends (r := some _) ?_
    rw [hhead]
    exact State.choose_named (hk.imp_right fun ⟨hk, hnil⟩ => ⟨hk, hegress hnil⟩) ((hnamed _).trans hc)
  case fixedIdle =>
    refine hsends (r := none) ?_
    rw [State.choose_fixed hk, State.takeHead_nil ((hnamed _).trans hc)]
  case fill =>
    refine hsends (r := some _) ?_
    rw [hhead, hupTo]
    refine State.choose_fill hk (hegress hnil) hfills hq ?_ ?_ ?_
    all_goals rw [← hupTo]
    · exact fun p hp => (hcells q p).trans (hown p hp)
    · exact fun p hlt hp => (hcells q p).trans (hbelow p hlt hp)
    · exact (hcells q q).trans hc
  case idle =>
    refine hsends (r := none) ?_
    rw [hupTo]
    refine State.choose_none hk (hegress hnil) hfills ?_ ?_
    all_goals rw [← hupTo]
    · exact fun p hp => (hcells 7 p).trans (hown p hp)
    · exact fun p hp => (hcells 7 p).trans (hnone p hp)

/-! ### Law L10 -/

/-- R16, R79: where queued counts are right, the purge of the cells before it does not free the owner of a cell that still waits. -/
theorem Purged.not_doomed {q : Fin 8} {gone rest : List QueuedCell} {c : QueuedCell} {s t : State} (h : Purged q gone s t)
    (hcells : (t.queue q).cells = c :: rest) (hsettled : t.Settled q) (hlaw : s.LawL4) : s.purges c = false := by
  refine Bool.eq_false_iff.2 fun hp => ?_
  obtain ⟨i, hi, hretiring, hpurge⟩ := State.purges_eq_true.1 hp
  have hcount : ownedIn i gone < (s.streams.get i).queued := by
    have hq : ownedIn i (s.queue q).cells ≤ s.owned i := by
      rw [State.owned_eq_sum]
      exact Finset.single_le_sum (f := fun q => ownedIn i (s.queue q).cells) (fun _ _ => Nat.zero_le _) (Finset.mem_univ q)
    rw [h.cells, hcells, ownedIn_append, ownedIn_cons, if_pos hi] at hq
    rw [(hlaw i).1]
    omega
  have hentry := (h.entries i).trans (StreamEntry.departed_iterate (.inr hcount))
  refine Bool.false_ne_true ((hsettled c (by rw [hcells]; rfl)).symm.trans (State.purges_eq_true.2 ⟨i, hi, ?_⟩))
  rw [hentry]
  exact ⟨hretiring, hpurge⟩

/-- R80: a head that is taken leaves the other queues and the free buffers as they were. -/
theorem State.takeHead_pool (s : State) (q : Fin 8) :
    (∀ p, p ≠ q → (s.takeHead q).2.queue p = s.queue p) ∧ (s.takeHead q).2.pool.free = s.pool.free := by
  rcases s.takeHead_cases q with ⟨-, he⟩ | ⟨c, rest, -, he⟩ <;> rw [he]
  · exact ⟨fun _ _ => rfl, rfl⟩
  · exact ⟨fun p hp => s.dequeued_queue_ne c rest hp, (congrArg Pool.free (s.dequeued_pool q c rest) :)⟩

/-- R105: what a slot event does after its choice reaches neither the control engine, nor the pool, nor the counters. -/
theorem exec_slotEvent_frame {s : State} (hheld : s.resetHeld = false) (hin : s.cal.inTx = none) :
    ∃ t, exec .slotEvent s = .next t ∧ t.engine = (s.choosing.choose s.slotEntry).2.engine
      ∧ t.pool = (s.choosing.choose s.slotEntry).2.pool ∧ t.counters = (s.choosing.choose s.slotEntry).2.counters
      ∧ t.cal.inTx = some ((s.choosing.choose s.slotEntry).1.getD .idle) := by
  obtain ⟨_, hadvance, -⟩ := (s.choosing.choose s.slotEntry).2.advance_parts
  have hexec : exec .slotEvent s = .next _ := congrArg Host.Outcome.next ((live_running hheld).trans (oneEvent_eq_unflagged _ s))
  rw [State.slotEvent_choice hin, hadvance] at hexec
  exact ⟨_, hexec, rfl, rfl, rfl, rfl⟩

/-- Settles O23: a FIXED slot consults its queue, which is `Purged`, and takes the head that is left. -/
theorem fixedSlotKeepsItsQueue : Obligations.FixedSlotKeepsItsQueue := by
  intro s hheld hin e doomed hk
  obtain ⟨t, hexec, hengine, hpool, hcounters, hsent⟩ := exec_slotEvent_frame hheld hin
  have hchoice : s.choosing.choose s.slotEntry = (s.choosing.consult e.queue).takeHead e.queue := State.choose_fixed hk
  obtain ⟨gone, h, -, hsettled⟩ := purgeFrom_purged e.queue _ s.choosing rfl
  change Purged e.queue gone s.choosing (s.choosing.consult e.queue) at h
  change (s.choosing.consult e.queue).Settled e.queue at hsettled
  rw [hchoice] at hengine hpool hcounters hsent
  have hbefore := s.choosing_eq
  have hsame := s.choosing_sameQueues
  have hdoomed (c : QueuedCell) : s.choosing.purges c = true ↔ doomed c := by rw [State.purges_eq_true, hsame.streams]
  have hlaw : s.LawL4 → s.choosing.LawL4 := by
    rw [hbefore]
    exact id
  obtain ⟨hother, hfree⟩ := (s.choosing.consult e.queue).takeHead_pool e.queue
  refine ⟨t, gone, hexec, ?engine, fun p hp => ?others, fun c hc => (hdoomed c).1 (h.doomed c hc), ?carried, ?free, ?discards⟩
  case engine =>
    rw [hengine]
    simp [s.choosing_engine]
  case others =>
    rw [hpool]
    exact (hother p hp).trans ((h.queues p hp).trans (hsame.queue p))
  case carried =>
    have hcells := h.cells
    rw [hsame.queue] at hcells
    rcases (s.choosing.consult e.queue).takeHead_cases e.queue with ⟨hnone, htake⟩ | ⟨c, rest, hhead, htake⟩
    · rw [htake] at hpool hsent
      rw [hnone, List.append_nil] at hcells
      exact .inr ⟨hcells, hpool ▸ hnone, hsent⟩
    · rw [htake] at hpool hsent
      rw [hhead] at hcells
      refine .inl ⟨c, rest, hcells, ?_, hsent, fun hl hd => ?_⟩
      · rw [hpool]
        exact congrArg EgressQueue.cells (State.dequeued_queue_self _ e.queue c rest)
      · exact Bool.false_ne_true ((h.not_doomed hhead hsettled (hlaw hl)).symm.trans ((hdoomed c).2 hd))
  case free =>
    rw [hpool, hfree, h.free, hbefore]
  case discards =>
    have hcounts : ((s.choosing.consult e.queue).takeHead e.queue).2.counters = (s.choosing.consult e.queue).counters := by simp
    rw [hcounters, hcounts, h.discards, hbefore]

end Sys2Proof.Machine
end

section
/-! PROOF. The CAL commands, accepted (R74, R85 to R91). -/

namespace Sys2Proof.Machine

-- One proof body at a time: each thread reserves memory, and the whole text as one file comes close to the limit of the check.
set_option Elab.async false

/-! ### The banks by role (R72), and the entries a command names (R86, R89) -/

theorem Calendar.activeBank_eq (x : Calendar) : x.activeBank = if x.active = .a then x.bankA else x.bankB := by
  cases h : x.active <;> simp [Calendar.activeBank, Calendar.bank, h]

theorem Calendar.shadowBank_eq (x : Calendar) : x.shadowBank = if x.active = .a then x.bankB else x.bankA := by
  cases h : x.active <;> simp [Calendar.shadowBank, Calendar.bank, BankName.other, h]

theorem Calendar.setShadow_eq (x : Calendar) (b : Bank) :
    x.setShadow b = if x.active = .a then { x with bankB := b } else { x with bankA := b } := by
  cases h : x.active <;> simp [Calendar.setShadow, h]

theorem calRange_iff {c : Control} : calRange c = true ↔
    c.index.toNat ≤ 255 ∧ (1 ≤ c.count.toNat ∧ c.count.toNat ≤ 16) ∧ c.index.toNat + c.count.toNat ≤ 256 := by
  simp [calRange, inRange, and_assoc]

/-- Section 10.4: code 0 names no kind of slot. -/
theorem decodeCalEntry_eq_none {b : Byte} : decodeCalEntry b = none ↔ b.extractLsb' 6 2 = 0 := by
  have hkind : ∀ k : BitVec 2, k = 0 ∨ k = 1 ∨ k = 2 ∨ k = 3 := by decide
  rcases hkind (b.extractLsb' 6 2) with h | h | h | h <;> simp [decodeCalEntry, h]

/-- R86: every entry that COUNT names is well coded. -/
def CalCoded (c : Control) : Prop := ∀ k, k < c.count.toNat → (c.byte k).extractLsb' 6 2 ≠ 0

theorem calEntries_none {c : Control} (h : ¬ CalCoded c) : calEntries c = none := by
  unfold CalCoded at h
  push Not at h
  obtain ⟨k, hk, hzero⟩ := h
  exact allSome_eq_none.2 (List.mem_map.2 ⟨k, List.mem_range.2 hk, decodeCalEntry_eq_none.2 hzero⟩)

theorem calEntries_some {c : Control} (h : CalCoded c) :
    ∃ es, calEntries c = some es ∧ es.length = c.count.toNat
      ∧ ∀ k (hk : k < es.length), decodeCalEntry (c.byte k) = some es[k] := by
  cases hes : calEntries c with
  | none =>
    obtain ⟨k, hk, hnone⟩ := List.mem_map.1 (allSome_eq_none.1 hes)
    exact absurd (decodeCalEntry_eq_none.1 hnone) (h k (List.mem_range.1 hk))
  | some es =>
    have hmap := allSome_eq_some.1 hes
    have hlength : es.length = c.count.toNat := by simpa using (congrArg List.length hmap).symm
    refine ⟨es, rfl, hlength, fun k hk => ?_⟩
    simpa [hk, hlength ▸ hk] using congrArg (·[k]?) hmap

/-- R86: what stands in a bank after a write. -/
theorem Bank.write_get (b : Bank) (at_ : Nat) (es : List CalEntry) (k : Fin 256) : (b.write at_ es).entries.get k =
    if k.val < at_ then b.entries.get k else (es[k.val - at_]?).getD (b.entries.get k) := Table.get_mapIdx _ _ _

/-! ### What the own parts of CAL-WRITE, CAL-LENGTH and CAL-COPY come to -/

section
variable {c : Control} {i : Fin 4} {s : State}

theorem ownCalWrite_illCoded (h : calRange c = false ∨ calEntries c = none) :
    ownCalWrite c i s = Done.same s { status := .badParam } := by
  unfold ownCalWrite
  split
  · next hrange => simp [h.resolve_left (by simp [hrange])]
  · rfl

theorem ownCalWrite_busy {es : List CalEntry} (h : calRange c = true) (hes : calEntries c = some es)
    (hp : s.cal.commitPending = true) : ownCalWrite c i s = Done.same s { status := .busy } := by
  simp [ownCalWrite, h, hes, hp]

/-- R86: the entries are written into the shadow bank. -/
theorem ownCalWrite_written {es : List CalEntry} (h : calRange c = true) (hes : calEntries c = some es)
    (hp : s.cal.commitPending = false) : ownCalWrite c i s =
      { state := { s with cal := s.cal.setShadow (s.cal.shadowBank.write c.index.toNat es) }
        reply := { status := .ok, count := c.count } } := by
  simp [ownCalWrite, h, hes, hp]

theorem ownCalLength_outOfRange (h : inRange 1 256 c.index.toNat = false) :
    ownCalLength c i s = Done.same s { status := .badParam } := by
  simp [ownCalLength, h]

theorem ownCalLength_busy (h : inRange 1 256 c.index.toNat = true) (hp : s.cal.commitPending = true) :
    ownCalLength c i s = Done.same s { status := .busy } := by
  simp [ownCalLength, h, hp]

theorem ownCalLength_set (h : inRange 1 256 c.index.toNat = true) (hp : s.cal.commitPending = false) :
    ownCalLength c i s =
      { state := { s with cal := s.cal.setShadow { s.cal.shadowBank with length := c.index.toNat } }
        reply := { status := .ok } } := by
  simp [ownCalLength, h, hp]

theorem ownCalCopy_busy (hp : s.cal.commitPending = true) : ownCalCopy c i s = Done.same s { status := .busy } := by
  simp [ownCalCopy, hp]

theorem ownCalCopy_copied (hp : s.cal.commitPending = false) : ownCalCopy c i s =
    { state := { s with cal := s.cal.setShadow s.cal.activeBank }, reply := { status := .ok } } := by
  simp [ownCalCopy, hp]

end

/-- Settles O47: by the checks of R86 to R88 in their order; what a write leaves is `Bank.write_get`. -/
theorem calendarWrites : Obligations.CalendarWrites := by
  intro s c rest i x hacc answers active shadow written ranges coded
  obtain ⟨hacc, hclaim⟩ := hacc
  have hactive : s.cal.activeBank = active := s.cal.activeBank_eq
  have hshadow : s.cal.shadowBank = shadow := s.cal.shadowBank_eq
  have hwritten (b : Bank) : { s with cal := s.cal.setShadow b } = written b := by rw [Calendar.setShadow_eq]
  refine ⟨fun hop hbad => ?writeBad, fun hop hr hc hp => ?writeBusy, fun hop hr hc hp => ?write, fun hop hbad => ?lengthBad,
    fun hop hlo hhi hp => ?lengthBusy, fun hop hlo hhi hp => ?length, fun hop hp => ?copyBusy, fun hop hp => ?copy⟩
  case writeBad =>
    refine congrArg Host.Outcome.next (live_accepted_same hacc hop (fun _ => hclaim) (ownCalWrite_illCoded ?_))
    exact hbad.imp (fun hr => Bool.eq_false_iff.2 fun h => hr (calRange_iff.1 h)) calEntries_none
  case writeBusy =>
    obtain ⟨es, hes, -, -⟩ := calEntries_some hc
    exact congrArg Host.Outcome.next (live_accepted_same hacc hop (fun _ => hclaim)
      (ownCalWrite_busy (calRange_iff.2 hr) hes hp))
  case write =>
    obtain ⟨es, hes, hcount, hdecode⟩ := calEntries_some hc
    refine ⟨(shadow.write c.index.toNat es).entries, fun k hk => ?_, fun k hlo hhi => ?_, ?_⟩
    · rw [Bank.write_get]
      split
      · rfl
      · rw [List.getElem?_eq_none (by omega)]
        rfl
    · have hin : k.val - c.index.toNat < es.length := by omega
      rw [Bank.write_get, if_neg (by omega), List.getElem?_eq_getElem hin]
      exact hdecode _ hin
    · show exec .calWrite s = .next ((written (shadow.write c.index.toNat es)).executed c rest i x _)
      rw [← hwritten, ← hshadow]
      exact congrArg Host.Outcome.next (live_accepted hacc hop (fun _ => hclaim) rfl
        (ownCalWrite_written (calRange_iff.2 hr) hes hp))
  case lengthBad =>
    exact congrArg Host.Outcome.next (live_accepted_same hacc hop (fun _ => hclaim)
      (ownCalLength_outOfRange (by simp [inRange]; omega)))
  case lengthBusy =>
    exact congrArg Host.Outcome.next (live_accepted_same hacc hop (fun _ => hclaim)
      (ownCalLength_busy (by simp [inRange, hlo, hhi]) hp))
  case length =>
    show exec .calLength s = .next ((written { shadow with length := c.index.toNat }).executed c rest i x _)
    rw [← hwritten, ← hshadow]
    exact congrArg Host.Outcome.next (live_accepted hacc hop (fun _ => hclaim) rfl
      (ownCalLength_set (by simp [inRange, hlo, hhi]) hp))
  case copyBusy => exact congrArg Host.Outcome.next (live_accepted_same hacc hop (fun _ => hclaim) (ownCalCopy_busy hp))
  case copy =>
    show exec .calCopy s = .next ((written active).executed c rest i x _)
    rw [← hwritten, ← hactive]
    exact congrArg Host.Outcome.next (live_accepted hacc hop (fun _ => hclaim) rfl (ownCalCopy_copied hp))

/-! ### The bytes of a CAL-READ (R89) -/

/-- The byte just shifted in stands lowest. -/
theorem extractLsb'_shiftIn_low (x : BitVec 128) (b : Byte) : ((x <<< 8) ||| b.setWidth 128).extractLsb' 0 8 = b := by
  ext j hj
  simp [hj, show j < 128 by omega]

/-- A byte shifted in moves the others up by one place. -/
theorem extractLsb'_shiftIn_high (x : BitVec 128) (b : Byte) {m : Nat} (h : m < 15) :
    ((x <<< 8) ||| b.setWidth 128).extractLsb' ((m + 1) * 8) 8 = x.extractLsb' (m * 8) 8 := by
  apply BitVec.eq_of_getLsbD_eq
  intro j hj
  have hin : (m + 1) * 8 + j < 128 := by omega
  have hsub : (m + 1) * 8 + j - 8 = m * 8 + j := by omega
  have hup : ¬ (m + 1) * 8 + j < 8 := by omega
  have hb : b.getLsbD ((m + 1) * 8 + j) = false := BitVec.getLsbD_of_ge b _ (by omega)
  simp only [BitVec.getLsbD_extractLsb', BitVec.getLsbD_or, BitVec.getLsbD_shiftLeft, BitVec.getLsbD_setWidth, hin, hsub, hup, hb]
  simp

/-- Of up to sixteen bytes shifted in, each stands below those before it. -/
theorem extractLsb'_foldl_bytes (bs : List Byte) (h : bs.length ≤ 16) (k : Nat) (hk : k < bs.length) :
    (bs.foldl (fun (d : BitVec 128) (b : Byte) => (d <<< 8) ||| b.setWidth 128) 0).extractLsb' ((bs.length - 1 - k) * 8) 8 = bs[k] := by
  induction bs using List.reverseRecOn with
  | nil => exact absurd hk (Nat.not_lt_zero k)
  | append_singleton bs b ih =>
    simp only [List.length_append, List.length_singleton] at h hk
    rw [List.foldl_append, List.foldl_cons, List.foldl_nil]
    by_cases hlast : k = bs.length
    · subst hlast
      simpa using extractLsb'_shiftIn_low _ b
    · have hk' : k < bs.length := by omega
      have hplace : (bs ++ [b]).length - 1 - k = (bs.length - 1 - k) + 1 := by
        simp only [List.length_append, List.length_singleton]
        omega
      rw [hplace, extractLsb'_shiftIn_high _ _ (by omega), ih (by omega) hk', List.getElem_append_left hk']

/-- R89: DATA byte position `k` holds byte `k`, and 0 beyond the bytes given. -/
theorem dataBytes_extract (bs : List Byte) (h : bs.length ≤ 16) {k : Nat} (hk : k < 16) :
    (dataBytes bs).extractLsb' ((15 - k) * 8) 8 = bs[k]?.getD 0 := by
  have hlength : (bs ++ List.replicate (16 - bs.length) (0#8)).length = 16 := by simp [h]
  have hplace : 15 - k = (bs ++ List.replicate (16 - bs.length) (0#8)).length - 1 - k := by omega
  rw [hplace]
  refine (extractLsb'_foldl_bytes _ hlength.le k (by omega)).trans ?_
  by_cases hb : k < bs.length
  · simp [hb, List.getElem_append_left hb]
  · simp [hb, List.getElem_append_right (Nat.not_lt.1 hb)]

/-! ### What the own parts of CAL-READ, CAL-COMMIT and CAL-CANCEL come to -/

/-- R89, section 10.4: ARG 0..3 names a bank. -/
theorem Calendar.bankNamed_none {x : Calendar} {arg : Byte} (h : 3 < arg.toNat) : x.bankNamed arg = none := by
  obtain ⟨n, hn⟩ : ∃ n, arg.toNat = n + 4 := ⟨arg.toNat - 4, by omega⟩
  rw [Calendar.bankNamed, hn]
  rfl

/-- R89, section 10.4: A, B, ACTIVE and SHADOW. -/
theorem Calendar.bankNamed_some {x : Calendar} {arg : Byte} {n : BankName}
    (h : (arg = 0 ∧ n = .a) ∨ (arg = 1 ∧ n = .b) ∨ (arg = 2 ∧ n = x.active) ∨ (arg = 3 ∧ n ≠ x.active)) :
    x.bankNamed arg = some n := by
  rcases h with ⟨rfl, rfl⟩ | ⟨rfl, rfl⟩ | ⟨rfl, rfl⟩ | ⟨rfl, hn⟩
  · rfl
  · rfl
  · rfl
  · show some x.active.other = some n
    cases n <;> cases ha : x.active <;> simp_all [BankName.other]

/-- R89, section 10.4: the three parts of the reply's ARG stand in bits of their own. -/
theorem Calendar.readArg_eq (x : Calendar) (n : BankName) : x.readArg n =
    (if n = .a then 0#8 else 1#8) + (if n = x.active then 2#8 else 0#8) + (if x.commitPending then 4#8 else 0#8) := by
  unfold Calendar.readArg
  generalize x.active = active, x.commitPending = pending
  cases n <;> cases active <;> cases pending <;> rfl

/-- R74, R90: a bank that serves control holds, within its length, an entry that is not FIXED. -/
theorem Bank.servesControl_iff {b : Bank} :
    b.servesControl = true ↔ ∃ k : Fin 256, k.val < b.length ∧ (b.entries.get k).kind ≠ .fixed := by
  simp only [Bank.servesControl, List.any_eq_true, List.mem_take_iff_getElem, bne_iff_ne]
  constructor
  · rintro ⟨e, ⟨k, hk, rfl⟩, hkind⟩
    have hsize := b.entries.size
    exact ⟨⟨k, by omega⟩, by simp only; omega, hkind⟩
  · rintro ⟨k, hk, hkind⟩
    exact ⟨_, ⟨k.val, by have := b.entries.size; omega, rfl⟩, hkind⟩

section
variable {c : Control} {i : Fin 4} {s : State}

/-- R89: what CAL-READ answers of bank `n`. -/
def calReadReply (x : Calendar) (c : Control) (n : BankName) : Reply where
  status := .ok
  arg := x.readArg n
  index := BitVec.ofNat 16 (x.bank n).length
  count := BitVec.ofNat 8 x.position
  data := dataBytes ((List.range c.count.toNat).map fun k => calEntryByte ((x.bank n).entry (c.index.toNat + k)))

theorem ownCalRead_illCoded (h : s.cal.bankNamed c.arg = none ∨ calRange c = false) :
    ownCalRead c i s = Done.same s { status := .badParam } := by
  unfold ownCalRead
  split
  · rfl
  · next hn => simp [h.resolve_left (by simp [hn])]

theorem ownCalRead_read {n : BankName} (hn : s.cal.bankNamed c.arg = some n) (h : calRange c = true) :
    ownCalRead c i s = Done.same s (calReadReply s.cal c n) := by
  simp [ownCalRead, hn, h, calReadReply]

theorem ownCalCommit_unserving (h : s.cal.shadowBank.servesControl = false) :
    ownCalCommit c i s = Done.same s { status := .badParam } := by
  simp [ownCalCommit, h]

theorem ownCalCommit_pending (h : s.cal.shadowBank.servesControl = true) (hp : s.cal.commitPending = true) :
    ownCalCommit c i s = Done.same s { status := .pending } := by
  simp [ownCalCommit, h, hp]

theorem ownCalCommit_accepted (h : s.cal.shadowBank.servesControl = true) (hp : s.cal.commitPending = false) :
    ownCalCommit c i s = { state := { s with cal := { s.cal with commitPending := true } }, reply := { status := .accepted } } := by
  simp [ownCalCommit, h, hp]

theorem ownCalCancel_cancelled (hp : s.cal.commitPending = true) : ownCalCancel c i s =
    { state := { s with cal := { s.cal with commitPending := false } }, reply := { status := .ok, arg := 1 } } := by
  simp [ownCalCancel, hp, detailCancelled]

theorem ownCalCancel_nonePending (hp : s.cal.commitPending = false) :
    ownCalCancel c i s = Done.same s { status := .ok, arg := 2 } := by
  simp [ownCalCancel, hp, detailNonePending]

end

/-- Settles O48: by the checks of R89 and R90 in their order; the reply to a CAL-READ is `calReadReply`. -/
theorem calendarReadCommitCancel : Obligations.CalendarReadCommitCancel := by
  intro s c rest i x hacc answers commit shadow ranges serves
  have hserves : s.cal.shadowBank.servesControl = true ↔ serves := by
    rw [Bank.servesControl_iff, Calendar.shadowBank_eq]
  refine ⟨fun hop hbad => ?readBad, fun n hop hr hn => ?read, fun hclaim => ⟨fun hop hs => ?commitBad, fun hop hs hp => ?commitAgain,
    fun hop hs hp => ?commit, fun hop hp => ?cancel, fun hop hp => ?cancelNone⟩⟩
  case readBad =>
    refine congrArg Host.Outcome.next (live_accepted_same hacc hop nofun (ownCalRead_illCoded ?_))
    exact hbad.imp Calendar.bankNamed_none fun hr => Bool.eq_false_iff.2 fun h => hr (calRange_iff.1 h)
  case read =>
    intro b
    have hb : s.cal.bank n = b := by cases n <;> rfl
    refine ⟨calReadReply s.cal c n, congrArg Host.Outcome.next (live_accepted_same hacc hop nofun
      (ownCalRead_read (Calendar.bankNamed_some hn) (calRange_iff.2 hr))), rfl, s.cal.readArg_eq n, ?_, rfl, fun k hk => ?_,
      fun k hk hmax => ?_⟩
    · rw [← hb]
      rfl
    · rw [calReadReply, dataBytes_extract _ (by simpa using hr.2.1.2) (by omega), hb]
      simp [hk, Bank.entry]
    · rw [calReadReply, dataBytes_extract _ (by simpa using hr.2.1.2) hmax]
      simp [Nat.not_lt.2 hk]
  case commitBad =>
    exact congrArg Host.Outcome.next (live_accepted_same hacc hop (fun _ => hclaim)
      (ownCalCommit_unserving (Bool.eq_false_iff.2 fun h => hs (hserves.1 h))))
  case commitAgain =>
    exact congrArg Host.Outcome.next (live_accepted_same hacc hop (fun _ => hclaim) (ownCalCommit_pending (hserves.2 hs) hp))
  case commit =>
    exact congrArg Host.Outcome.next (live_accepted hacc hop (fun _ => hclaim) rfl (ownCalCommit_accepted (hserves.2 hs) hp))
  case cancel => exact congrArg Host.Outcome.next (live_accepted hacc hop (fun _ => hclaim) rfl (ownCalCancel_cancelled hp))
  case cancelNone => exact congrArg Host.Outcome.next (live_accepted_same hacc hop (fun _ => hclaim) (ownCalCancel_nonePending hp))

end Sys2Proof.Machine
end
section
/-! PROOF. The bounds of the engine, the port, the receiver, the settings and the timers as one invariant, and the operations that keep what
it reads. -/

namespace Sys2Proof.Machine

-- One proof body at a time: each thread reserves memory, and the whole text as one file comes close to the limit of the check.
set_option Elab.async false

/-! ### The invariant -/

/-- The bounds that `Obligations.BlockBoundsKept` is about. -/
structure State.BlockBounds (s : State) : Prop where
  engine   : s.EngineOk
  port     : s.PortOk
  receiver : s.ReceiverOk
  ranges   : s.Ranges

/-- State `t` has the engine, the cell in transmission, the port and the receiver of `s`, its drop queue is empty only where that of `s`
is, and its records are in their ranges where those of `s` are. -/
def State.KeepsBlocks (s t : State) : Prop :=
  t.engine = s.engine ∧ t.cal.inTx = s.cal.inTx ∧ t.port = s.port ∧ t.rx = s.rx ∧ (t.pool.drop = [] → s.pool.drop = [])
    ∧ (s.Ranges → t.Ranges)

/-- R163, R169: the retries left and the report timer are within their bounds. -/
def EventUnit.InRange (u : EventUnit) : Prop := u.retriesLeft ≤ 7 ∧ ∀ t, u.timer = some t → t ≤ 255

/-- An operation that keeps the bounds. -/
def KeepsBlockBounds (f : State → State) : Prop := ∀ s : State, s.BlockBounds → (f s).BlockBounds

namespace State.KeepsBlocks

variable {s t u : State}

theorem refl (s : State) : s.KeepsBlocks s := ⟨rfl, rfl, rfl, rfl, id, id⟩

theorem trans (h : s.KeepsBlocks t) (h' : t.KeepsBlocks u) : s.KeepsBlocks u := by
  obtain ⟨hengine, htx, hport, hrx, hdrop, hranges⟩ := h
  obtain ⟨hengine', htx', hport', hrx', hdrop', hranges'⟩ := h'
  exact ⟨hengine'.trans hengine, htx'.trans htx, hport'.trans hport, hrx'.trans hrx, hdrop ∘ hdrop', hranges' ∘ hranges⟩

/-- An operation that leaves all that the bounds read. -/
theorem of_frame (h : t.engine = s.engine ∧ t.cal.inTx = s.cal.inTx ∧ t.port = s.port ∧ t.rx = s.rx ∧ t.pool.drop = s.pool.drop
    ∧ t.settings = s.settings ∧ t.bank.meters = s.bank.meters ∧ t.streams = s.streams ∧ t.sess.entries = s.sess.entries ∧ t.events = s.events) :
    s.KeepsBlocks t := by
  obtain ⟨hengine, htx, hport, hrx, hdrop, hsettings, hbank, hstreams, hsess, hevents⟩ := h
  refine ⟨hengine, htx, hport, hrx, fun h => hdrop ▸ h, fun h => ?_⟩
  simpa only [State.Ranges, State.StreamsInRange, State.meter_congr hbank, hsettings, hstreams, hsess, hevents] using h

theorem foldl {α : Type} {f : State → α → State} (hf : ∀ (s : State) a, s.KeepsBlocks (f s a)) (as : List α) (s : State) :
    s.KeepsBlocks (as.foldl f s) :=
  List.foldlRecOn (motive := s.KeepsBlocks) as f (refl s) fun t ht a _ => ht.trans (hf t a)

/-! What the ranges read, record by record -/

/-- R27: a meter is written with its configured fields in their ranges. -/
theorem setMeter {m : Fin 128} {x : Meter} (hx : (s.meter m).InRange → x.InRange) : s.KeepsBlocks (s.setMeter m x) := by
  refine ⟨rfl, rfl, rfl, rfl, id, fun ⟨hsettings, hmeters, hrest⟩ => ⟨hsettings, fun n => ?_, hrest⟩⟩
  rw [State.meter_setMeter]
  split
  · exact hx (hmeters m)
  · exact hmeters n

/-- R1: an entry is written with an add-hop of 1..15. -/
theorem setStream {i : Fin 256} {e : StreamEntry} (he : (s.streams.get i).addHop ≠ 0 → e.addHop ≠ 0) :
    s.KeepsBlocks (s.setStream i e) := by
  refine ⟨rfl, rfl, rfl, rfl, id, fun ⟨hsettings, hmeters, hhops, hrest⟩ => ⟨hsettings, hmeters, fun j => ?_, hrest⟩⟩
  rw [State.setStream_streams, Table.get_set]
  split
  · exact he (hhops i)
  · exact hhops j

/-- R132: a session is written with an idle timer within its bound. -/
theorem setSession {i : Fin 4} {x : Option Session}
    (hx : s.Ranges → ∀ y, x = some y → y.idleTimer ≤ Config.idleTimerMax) : s.KeepsBlocks (s.setSession i x) := by
  refine ⟨rfl, rfl, rfl, rfl, id, fun hranges => ?_⟩
  obtain ⟨hsettings, hmeters, hhops, hidle, hevents⟩ := hranges
  refine ⟨hsettings, hmeters, hhops, fun j y hy => ?_, hevents⟩
  rw [State.setSession_sess, Table.get_set] at hy
  split at hy
  · exact hx ⟨hsettings, hmeters, hhops, hidle, hevents⟩ y hy
  · exact hidle j y hy

/-- R163, R169: the Event Unit changes with its retries and its timer within their bounds. -/
theorem withEvents {v : EventUnit} (hv : s.settings.InRange → s.events.InRange → v.InRange) :
    s.KeepsBlocks { s with events := v } :=
  ⟨rfl, rfl, rfl, rfl, id, fun ⟨hsettings, hmeters, hhops, hidle, hevents⟩ => ⟨hsettings, hmeters, hhops, hidle, hv hsettings hevents⟩⟩

end State.KeepsBlocks

theorem State.ReceiverOk.of_rx {s t : State} (h : s.ReceiverOk) (hrx : t.rx = s.rx) : t.ReceiverOk := by
  simpa only [State.ReceiverOk, hrx] using h

namespace State.BlockBounds

variable {s t : State}

theorem of_keeps (h : s.BlockBounds) (ht : s.KeepsBlocks t) : t.BlockBounds := by
  obtain ⟨hengine, htx, hport, hrx, hdrop, hranges⟩ := ht
  obtain ⟨hslots, hopen, hposition, hempty⟩ := h.port
  refine ⟨?_, ⟨hport ▸ hslots, hport ▸ hopen, hport ▸ hposition, fun hd => hport ▸ hempty (hdrop hd)⟩, ?_, hranges h.ranges⟩
  · simpa only [State.EngineOk, State.marks, hengine, htx] using h.engine
  · exact h.receiver.of_rx hrx

/-- The bounds where intake, the control egress queue, staging and the transmitter are empty and the rest is as after a power-on. -/
theorem of_powerOn (hintake : t.engine.intake = []) (hegress : t.engine.egress = []) (hpending : t.engine.restartPending = false)
    (htx : t.cal.inTx = none) (hcompleted : t.port.completed = []) (hopen : t.port.openCell = .none)
    (hposition : t.port.deliveryPosition = 0) (hrx : t.rx = .powerOn) (hranges : t.Ranges) : t.BlockBounds where
  engine := by simp [State.EngineOk, State.marks, hintake, hegress, hpending, htx]
  port := by simp [State.PortOk, LocalPort.slotsInUse, OpenCell.isPlaced, OpenCell.Ok, hcompleted, hopen, hposition]
  receiver := by simp [State.ReceiverOk, hrx, Receiver.powerOn]
  ranges := hranges

end State.BlockBounds

namespace KeepsBlockBounds

theorem of_keeps {f : State → State} (hf : ∀ s : State, s.KeepsBlocks (f s)) : KeepsBlockBounds f := fun s h => h.of_keeps (hf s)

/-- R162: the bounds do not read what is handed over, so an event may be run apart from it; a held part takes no event. -/
theorem live {f : State → State} (hf : KeepsBlockBounds f) : KeepsBlockBounds (live f) := fun s h => by
  cases hr : s.resetHeld with
  | true => rwa [live_held hr]
  | false =>
    rw [live_running hr, oneEvent_eq_unflagged]
    exact (hf s.unflagged (h.of_keeps (.refl s))).of_keeps (.refl (f s.unflagged))

/-- An event that keeps what the bounds read. -/
theorem live_of_keeps {f : State → State} (hf : ∀ s : State, s.KeepsBlocks (f s)) : KeepsBlockBounds (Machine.live f) :=
  live (of_keeps hf)

/-- R183: an edge of LCLK moves the two level pins alone. -/
theorem portEdge {f : State → State} (hf : KeepsBlockBounds f) : KeepsBlockBounds fun s => (f s).portEdge := fun s h =>
  ⟨(hf s h).engine, (hf s h).port, (hf s h).receiver, (hf s h).ranges⟩

end KeepsBlockBounds

/-! ### Cells that arrive at the Stream Table (R4 to R16, R35, R57 to R64) -/

theorem hand_keepsBlocks (s : State) (f : EventFlag) : s.KeepsBlocks (s.hand f) := .of_frame (by simp)

theorem countDevice_keepsBlocks (s : State) (c : DeviceCounter) : s.KeepsBlocks (s.countDevice c) := .of_frame (by simp)

theorem countOther_keepsBlocks (s : State) (k : Kind) (o : Option (Fin 256)) : s.KeepsBlocks (s.countOther k o) := .of_frame (by simp)

theorem charge_keepsBlocks (s : State) (m : Fin 128) : s.KeepsBlocks (s.charge m) := .setMeter id

theorem tested_keepsBlocks (s : State) (m : Fin 128) : s.KeepsBlocks (s.tested m) := by
  rcases s.tested_cases m with ⟨-, he⟩ | ⟨-, -, he⟩ | ⟨p, -, -, he⟩ <;> rw [he]
  · exact .refl s
  · exact charge_keepsBlocks s m
  · exact (charge_keepsBlocks s m).trans (charge_keepsBlocks _ p)

theorem ownerGains_keepsBlocks (s : State) (o : Option (Fin 256)) : s.KeepsBlocks (s.ownerGains o) := by
  cases o with
  | none => exact .refl s
  | some i => exact .setStream id

/-- R59: an acceptance reaches the egress queues, the queue's counter and the owner's queued count. -/
theorem accept_keepsBlocks (s : State) (q : Fin 8) (c : QueuedCell) : s.KeepsBlocks (s.accept q c) :=
  .trans (.of_frame (by simp)) (ownerGains_keepsBlocks _ c.owner)

theorem admitEgress_keepsBlocks (s : State) (q : Fin 8) (c : QueuedCell) : s.KeepsBlocks (s.admitEgress q c) := by
  rcases s.admitEgress_cases q c with ⟨hstreams, hpool⟩ | he
  · exact .of_frame (by simp [hstreams, hpool])
  · exact he ▸ accept_keepsBlocks s q c

/-- R63: a cell that joins the drop queue does not leave it empty. -/
theorem admitDrop_keepsBlocks (s : State) (i : Fin 256) (c : RawCell) : s.KeepsBlocks (s.admitDrop i c) := by
  by_cases hroom : s.pool.drop.length < s.settings.dropLimit
  · by_cases hfree : 0 < s.pool.free
    · rw [State.admitDrop_accepted i c hroom hfree]
      exact ⟨rfl, rfl, rfl, rfl, fun h => absurd h (by simp), id⟩
    · rw [State.admitDrop_noBuffer i c hroom (by omega)]
      exact .of_frame (by simp)
  · rw [State.admitDrop_full i c (by omega)]
    exact .of_frame (by simp)

theorem policeAndAdmit_keepsBlocks (s : State) (i : Fin 256) (e : StreamEntry) (h : Header) (p : Payload) :
    s.KeepsBlocks (s.policeAndAdmit i e h p) := by
  simp only [State.policeAndAdmit]
  split
  · exact admitEgress_keepsBlocks s _ _
  · next m _ =>
    refine (tested_keepsBlocks s m).trans ?_
    split
    · exact admitEgress_keepsBlocks _ _ _
    · split
      · exact .trans (.of_frame (by simp)) (admitEgress_keepsBlocks _ _ _)
      · exact .of_frame (by simp)

theorem forwardPart_keepsBlocks (s : State) (i : Fin 256) (e : StreamEntry) (h : Header) (p : Payload) :
    s.KeepsBlocks (s.forwardPart i e h p) := by
  unfold State.forwardPart
  split
  · exact .of_frame (by simp)
  · split
    · exact policeAndAdmit_keepsBlocks s i e h p
    · exact admitEgress_keepsBlocks s _ _

theorem applyAction_keepsBlocks (s : State) (i : Fin 256) (e : StreamEntry) (c : RawCell) : s.KeepsBlocks (s.applyAction i e c) := by
  simp only [State.applyAction]
  split
  · exact forwardPart_keepsBlocks s i e _ _
  · exact admitDrop_keepsBlocks s i c
  · exact (admitDrop_keepsBlocks s i c).trans (forwardPart_keepsBlocks _ i e _ _)
  · exact countOther_keepsBlocks s _ _

theorem unknownLabel_keepsBlocks (s : State) (h : Header) (p : Payload) : s.KeepsBlocks (s.unknownLabel h p) := by
  have hcount : s.KeepsBlocks ((s.countDevice .unknownLabel).hand .unknownLabel) := .of_frame (by simp)
  simp only [State.unknownLabel]
  split
  · exact hcount
  · split
    · exact hcount.trans (.of_frame (by simp))
    · exact hcount.trans (admitEgress_keepsBlocks _ _ _)

theorem lookupRing_keepsBlocks (s : State) (c : RawCell) : s.KeepsBlocks (s.lookupRing c) := by
  simp only [State.lookupRing]
  split
  · exact unknownLabel_keepsBlocks s _ _
  · next i _ =>
    split
    · exact .of_frame (by simp)
    · split
      · exact .trans (.of_frame (by simp)) (applyAction_keepsBlocks (s.countStream i .arrived) i _ c)
      · exact applyAction_keepsBlocks s i _ c

theorem arriveLocal_keepsBlocks (s : State) (c : RawCell) : s.KeepsBlocks (s.arriveLocal c) := by
  simp only [State.arriveLocal]
  split
  · exact .of_frame (by simp)
  · split
    · exact .of_frame (by simp)
    · next i _ =>
      split
      · exact .of_frame (by simp)
      · split
        · exact .trans (.of_frame (by simp)) (policeAndAdmit_keepsBlocks (s.countStream i .arrived) i _ _ _)
        · exact .of_frame (by simp)

end Sys2Proof.Machine
end

section
/-! PROOF. The events of the ring, the meters, the local port, the slot and the Event Unit keep the bounds. -/

namespace Sys2Proof.Machine

-- One proof body at a time: each thread reserves memory, and the whole text as one file comes close to the limit of the check.
set_option Elab.async false

/-! ### The stores of the Control Engine (R103, R104, R125, R127) -/

theorem State.marks_joinEgress (s : State) (c : EgressCell) :
    (s.joinEgress c).marks = s.marks + if c.mark.isSome then 1 else 0 := by
  simp only [State.marks, State.joinEgress_engine, State.joinEgress_cal, List.countP_append, List.countP_singleton]
  omega

namespace State.BlockBounds

variable {s : State}

/-- R127: a cell without a restart mark takes a free place of the control egress queue. -/
theorem joinEgress {c : EgressCell} (h : s.BlockBounds) (hroom : s.engine.egress.length < 8) (hmark : c.mark = none) :
    (s.joinEgress c).BlockBounds := by
  obtain ⟨hintake, -, hmarks⟩ := h.engine
  refine ⟨⟨hintake, ?_, ?_⟩, h.port, h.receiver, h.ranges⟩
  · simpa using hroom
  · rw [State.marks_joinEgress, hmark]
    exact hmarks

theorem toIntake (c : ControlCell) (h : s.BlockBounds) : (s.toIntake c).BlockBounds := by
  unfold State.toIntake
  split
  · exact h.of_keeps (.of_frame (by simp))
  · split
    · exact h.of_keeps (.of_frame (by simp))
    · next hroom =>
      obtain ⟨-, hegress, hmarks⟩ := h.engine
      refine ⟨⟨?_, hegress, hmarks⟩, h.port, h.receiver, h.ranges⟩
      simpa using hroom

theorem toTransit (c : ControlCell) (h : s.BlockBounds) : (s.toTransit c).BlockBounds := by
  unfold State.toTransit
  split
  · exact h.of_keeps (.of_frame (by simp))
  · split
    · next hroom => exact h.joinEgress (of_decide_eq_true hroom) rfl
    · exact h.of_keeps (.of_frame (by simp))

theorem routeControl (c : ControlCell) (h : s.BlockBounds) : (s.routeControl c).BlockBounds := by
  simp only [State.routeControl]
  split
  · split
    · exact (h.toIntake c).toTransit c
    · exact h.toTransit c
  · split
    · split
      · exact h.of_keeps (.of_frame (by simp))
      · exact h.toIntake c
    · exact h.toTransit c

theorem sortCell (c : RawCell) (h : s.BlockBounds) : (s.sortCell c).BlockBounds := by
  simp only [State.sortCell]
  split
  case h_1 => exact h
  case h_2 => exact h.of_keeps (lookupRing_keepsBlocks s c)
  case h_3 =>
    have hmark : s.KeepsBlocks (s.markSource (Header.ofWord c.header).label) := .of_frame (by simp [State.markSource])
    exact h.of_keeps (hmark.trans (lookupRing_keepsBlocks _ c))
  case h_4 => exact h.routeControl _
  all_goals exact h.of_keeps (.of_frame (by simp))

end State.BlockBounds

/-! ### The receiver (R95 to R99) -/

theorem slideWindow_length (w : List Byte) (b : Byte) : (slideWindow w b).length ≤ 4 := by
  simp only [slideWindow, List.length_drop, List.length_append, List.length_singleton]
  omega

/-- The receiver takes another state within its bounds. -/
theorem State.BlockBounds.receive {s : State} {r : Receiver} (h : s.BlockBounds) (hr : State.ReceiverOk { s with rx := r }) :
    State.BlockBounds { s with rx := r } := ⟨h.engine, h.port, hr, h.ranges⟩

/-- R96: in HUNT there is no cell in reception, and a good window starts PRESYNC with a good run of 0. -/
theorem huntByte_keepsBlockBounds (b : Byte) : KeepsBlockBounds (State.huntByte b) := fun s h => by
  unfold State.huntByte
  split
  · next hstate =>
    obtain ⟨hhunt, -, -, harriving, -⟩ := h.receiver
    obtain ⟨hgood, hbad, hboundary⟩ := hhunt hstate
    have hnone : s.rx.arriving = none := by
      cases ha : s.rx.arriving with
      | none => rfl
      | some w => simp [hstate, ha] at harriving
    have hwindow := slideWindow_length s.rx.window b
    refine h.receive ?_
    simp only [Receiver.hunt]
    split <;> simp [State.ReceiverOk, hstate, hnone, hgood, hbad, hboundary, hwindow]
  · exact h

/-- R97, R98: a run that reaches its end leaves PRESYNC or SYNC, and the next state starts with its own runs. -/
theorem testHeader_keepsBlockBounds (w : Word) : KeepsBlockBounds (State.testHeader w) := fun s h => by
  obtain ⟨-, hpresync, hsync, -, -⟩ := h.receiver
  unfold State.testHeader
  split
  · next n hboundary harriving =>
    split
    · exact h
    · next hstate =>
      obtain ⟨hgood, -⟩ := hpresync hstate
      split
      · simp only [State.presyncGood]
        split
        · next hrun =>
          exact (h.receive (by simp [State.ReceiverOk, harriving, hrun, headerBytes])).of_keeps (hand_keepsBlocks _ _)
        · exact h.receive (by simp [State.ReceiverOk, hstate, harriving, headerBytes]; omega)
      · exact h.receive (by simp [State.ReceiverOk, harriving, headerBytes])
    · next hstate =>
      obtain ⟨hgood, hbad, -⟩ := hsync hstate
      have hcounted : ((s.countDevice .headerErrors).hand .headerError).BlockBounds := h.of_keeps (.of_frame (by simp))
      split
      · exact h.receive (by simp [State.ReceiverOk, hstate, hgood, headerBytes])
      · simp only [State.syncBad]
        split
        · refine ((hcounted.receive ?_).of_keeps (hand_keepsBlocks _ _)).of_keeps (countDevice_keepsBlocks _ _)
          simp [State.ReceiverOk, harriving, headerBytes]
        · exact hcounted.receive (by simp [State.ReceiverOk, hstate, harriving, hgood, headerBytes]; omega)
  · exact h

/-- R99: the cell in reception is handed on in SYNC, and the store is emptied. -/
theorem handOn_keepsBlockBounds (p : Payload) : KeepsBlockBounds (State.handOn p) := fun s h => by
  unfold State.handOn
  split
  · exact h
  · obtain ⟨hhunt, hpresync, hsync, -, -⟩ := h.receiver
    refine (h.receive ?_).sortCell _
    exact ⟨hhunt, hpresync, hsync, by simp, by simp [headerBytes]⟩

/-! ### Source events (R28 to R33) -/

theorem sourceAt_keepsBlocks (s : State) (o : Origin) (m : Fin 128) : s.KeepsBlocks (s.sourceAt o m) := by
  simp only [State.sourceAt]
  split
  · split
    · exact .setMeter id
    · exact .trans (.setMeter (m := m) (x := (s.meter m).expired) id) (.of_frame (by simp [State.expireMeter]))
  · exact .refl s

theorem takeSourceEvent_keepsBlocks (p : Origin → Bool) (m : Option (Fin 128)) (s : State) :
    s.KeepsBlocks (State.takeSourceEvent p m s) := by
  unfold State.takeSourceEvent
  split
  · exact .refl s
  · exact .trans (.refl s) (.foldl (fun t m => sourceAt_keepsBlocks t _ m) _ _)

theorem takeSourceOperand_keepsBlocks (p : Origin → Bool) (m : Option Nat) (s : State) :
    s.KeepsBlocks (State.takeSourceOperand p m s) := by
  unfold State.takeSourceOperand
  split
  · exact takeSourceEvent_keepsBlocks p _ s
  · split
    · exact .refl s
    · exact takeSourceEvent_keepsBlocks p _ s

theorem takeExpiry_keepsBlocks (m : Nat) (s : State) : s.KeepsBlocks (State.takeExpiry m s) := by
  unfold State.takeExpiry
  split
  · exact .refl s
  · simp only
    split
    · exact takeSourceEvent_keepsBlocks _ _ s
    · exact .refl s

/-! ### The local port (R112 to R119) -/

namespace State.BlockBounds

variable {s : State}

/-- R112: the open cell is another one, which fits beside the completed cells. -/
theorem setOpen {x : OpenCell} (h : s.BlockBounds) (hok : x.Ok)
    (hroom : s.port.completed.length + (if x.isPlaced then 1 else 0) ≤ 4) : (s.setOpen x).BlockBounds := by
  obtain ⟨-, -, hposition, hempty⟩ := h.port
  exact ⟨h.engine, ⟨hroom, hok, hposition, hempty⟩, h.receiver, h.ranges⟩

theorem completed_le (h : s.BlockBounds) : s.port.completed.length ≤ 4 := by
  obtain ⟨hslots, -⟩ := h.port
  exact (Nat.le_add_right _ _).trans hslots

/-- R112: a placed cell has a staging slot beside the completed ones, and has received 1..7 words. -/
theorem placed {ws : List Word} (h : s.BlockBounds) (hopen : s.port.openCell = .placed ws) :
    s.port.completed.length + 1 ≤ 4 ∧ ws.length ≤ 7 := by
  obtain ⟨hslots, hok, -⟩ := h.port
  rw [hopen] at hok
  obtain ⟨-, hmax⟩ := hok
  simpa [LocalPort.slotsInUse, hopen, OpenCell.isPlaced] using And.intro hslots hmax

theorem closeOpen (h : s.BlockBounds) : (s.setOpen .none).BlockBounds := h.setOpen trivial h.completed_le

theorem refuseAdd (h : s.BlockBounds) : s.refuseAdd.BlockBounds := h.of_keeps (.of_frame (by simp))

theorem cutOpen (h : s.BlockBounds) : s.cutOpen.BlockBounds := by
  unfold State.cutOpen
  split
  · exact h
  · exact h.closeOpen.refuseAdd
  · exact h.closeOpen.refuseAdd

end State.BlockBounds

theorem addFirst_keepsBlockBounds (w : Word) : KeepsBlockBounds (State.addFirst w) := fun s h => by
  have hcut := h.cutOpen
  simp only [State.addFirst]
  split
  · next hroom => exact hcut.setOpen (by simp [OpenCell.Ok]) ((Nat.le_add_right _ _).trans_lt hroom)
  · exact hcut.setOpen (by simp [OpenCell.Ok]) hcut.completed_le

theorem addContinue_keepsBlockBounds (w : Word) : KeepsBlockBounds (State.addContinue w) := fun s h => by
  simp only [State.addContinue]
  split
  · exact h.refuseAdd
  · next ws hopen =>
    obtain ⟨hroom, -⟩ := h.placed hopen
    split
    · exact h.setOpen (by simp [OpenCell.Ok]; omega) hroom
    · obtain ⟨-, -, hposition, hempty⟩ := h.port
      refine ⟨h.engine, ⟨?_, trivial, hposition, hempty⟩, h.receiver, h.ranges⟩
      simpa [LocalPort.slotsInUse, State.setOpen, OpenCell.isPlaced] using hroom
  · split
    · exact h.setOpen (by simp [OpenCell.Ok]; omega) h.completed_le
    · exact h.closeOpen.refuseAdd

theorem localArrival_keepsBlockBounds : KeepsBlockBounds State.localArrival := fun s h => by
  unfold State.localArrival
  split
  · exact h
  · next c rest hcompleted =>
    obtain ⟨hslots, hok, hposition, hempty⟩ := h.port
    have htaken : State.BlockBounds { s with port := { s.port with completed := rest } } := by
      refine ⟨h.engine, ⟨?_, hok, hposition, hempty⟩, h.receiver, h.ranges⟩
      simp only [LocalPort.slotsInUse, hcompleted, List.length_cons] at hslots ⊢
      omega
    exact htaken.of_keeps (arriveLocal_keepsBlocks _ c)

/-- R119: the delivery position moves within the head of the drop queue, and back to 0 as the head leaves. -/
theorem takeDrop_keepsBlockBounds : KeepsBlockBounds State.takeDrop := fun s h => by
  obtain ⟨hslots, hok, hposition, hempty⟩ := h.port
  simp only [State.takeDrop]
  split
  · exact h
  · next c rest hdrop =>
    split
    · exact ⟨h.engine, ⟨hslots, hok, by simp only; omega, fun hd => by simp [hdrop] at hd⟩, h.receiver, h.ranges⟩
    · exact ⟨h.engine, ⟨hslots, hok, Nat.zero_le _, fun _ => rfl⟩, h.receiver, h.ranges⟩

theorem releasePin_keepsBlockBounds (straps : BitVec 6) : KeepsBlockBounds fun s => s.releasePin straps := fun s h => by
  simp only [State.releasePin]
  split
  · exact ⟨h.engine, h.port, h.receiver, h.ranges⟩
  · exact h

end Sys2Proof.Machine
end

section
/-! PROOF. The slot, the restarts, the ticks and the reports keep the bounds. -/

namespace Sys2Proof.Machine

-- One proof body at a time: each thread reserves memory, and the whole text as one file comes close to the limit of the check.
set_option Elab.async false

/-! ### The selection of a slot's cell (R77 to R81) -/

theorem ownerDeparts_keepsBlocks (s : State) (o : Option (Fin 256)) : s.KeepsBlocks (s.ownerDeparts o) := by
  cases o with
  | none => exact .refl s
  | some i =>
    simp only [State.ownerDeparts, State.departs]
    split
    · exact .trans (.setStream fun _ => by simp [StreamEntry.cleared]) (hand_keepsBlocks _ _)
    · exact .setStream id

theorem purgeOne_keepsBlocks (s : State) (q : Fin 8) (c : QueuedCell) (rest : List QueuedCell) :
    s.KeepsBlocks (s.purgeOne q c rest) := .trans (.of_frame (by simp)) (ownerDeparts_keepsBlocks _ c.owner)

theorem consult_keepsBlocks (s : State) (q : Fin 8) : s.KeepsBlocks (s.consult q) := by
  have hpurge (cs : List QueuedCell) (t : State) : t.KeepsBlocks (purgeFrom q cs t) := by
    induction cs generalizing t with
    | nil => exact .refl t
    | cons c cs ih =>
      unfold purgeFrom
      split
      · exact (purgeOne_keepsBlocks t q c cs).trans (ih _)
      · exact .refl t
  exact hpurge _ s

/-- A selection that keeps the blocks of `s` and has not chosen a control cell. -/
def State.SelectsUnmarked (s : State) (r : Option TxCell × State) : Prop :=
  s.KeepsBlocks r.2 ∧ ∀ c, r.1 = some c → c.mark = none

theorem State.SelectsUnmarked.after {s t : State} {r : Option TxCell × State} (ht : s.KeepsBlocks t) (hr : t.SelectsUnmarked r) :
    s.SelectsUnmarked r := ⟨ht.trans hr.1, hr.2⟩

/-- R80: the head of a queue is a pool cell, which carries no restart mark. -/
theorem takeHead_selectsUnmarked (s : State) (q : Fin 8) : s.SelectsUnmarked (s.takeHead q) := by
  rcases s.takeHead_cases q with ⟨-, he⟩ | ⟨c, rest, -, he⟩ <;> rw [he]
  · exact ⟨.refl s, nofun⟩
  · refine ⟨.trans (.refl s) (ownerDeparts_keepsBlocks _ c.owner), fun d hd => ?_⟩
    cases hd
    rfl

theorem consultTake_selectsUnmarked (s : State) (q : Fin 8) : s.SelectsUnmarked ((s.consult q).takeHead q) :=
  .after (consult_keepsBlocks s q) (takeHead_selectsUnmarked _ q)

theorem fillFrom_selectsUnmarked (qs : List (Fin 8)) (s : State) : s.SelectsUnmarked (fillFrom qs s) := by
  induction qs generalizing s with
  | nil => exact ⟨.refl s, nofun⟩
  | cons q qs ih =>
    unfold fillFrom
    have ht := consultTake_selectsUnmarked s q
    split
    · split
      · next hr => rwa [hr] at ht
      · next hr =>
        rw [hr] at ht
        exact .after ht.1 (ih _)
    · exact ih s

/-- R77, R81: the choice is the head of the control egress queue, or no control cell. -/
theorem State.choose_cases (s : State) (e : CalEntry) :
    (∃ k rest, s.engine.egress = k :: rest
        ∧ s.choose e = (some (.control k), { s with engine := { s.engine with egress := rest } }))
      ∨ s.SelectsUnmarked (s.choose e) := by
  cases hkind : e.kind with
  | fixed =>
    rw [State.choose_fixed hkind]
    exact .inr (consultTake_selectsUnmarked s e.queue)
  | preferred =>
    cases hegress : s.engine.egress with
    | cons k rest => exact .inl ⟨k, rest, rfl, State.choose_control (by simp [hkind]) hegress⟩
    | nil =>
      have ht := consultTake_selectsUnmarked s e.queue
      simp only [State.choose, hkind, State.takeControl_nil hegress]
      split
      · next hr => exact .inr (by rwa [hr] at ht)
      · next u hr =>
        rw [hr] at ht
        exact .inr (.after ht.1 (fillFrom_selectsUnmarked fillOrder u))
  | open_ =>
    cases hegress : s.engine.egress with
    | cons k rest => exact .inl ⟨k, rest, rfl, State.choose_control (by simp [hkind]) hegress⟩
    | nil =>
      simp only [State.choose, hkind, State.takeControl_nil hegress]
      exact .inr (fillFrom_selectsUnmarked fillOrder s)

/-! ### The slot (R75, R84), and the restarts (R147) -/

/-- R146: the restart marks where no cell is in transmission. -/
theorem State.marks_none {s : State} (h : s.cal.inTx = none) : s.marks = s.engine.egress.countP fun k => k.mark.isSome := by
  simp only [State.marks, h, Nat.add_zero]

/-- R146: the restart marks with a cell in transmission. -/
theorem State.marks_some {s : State} {c : TxCell} (h : s.cal.inTx = some c) :
    s.marks = (s.engine.egress.countP fun k => k.mark.isSome) + if c.mark.isSome then 1 else 0 := by
  simp only [State.marks, h]

namespace State.BlockBounds

variable {s : State} {c : TxCell}

/-- R105: a cell without a restart mark goes into transmission. -/
theorem carry (h : s.BlockBounds) (hnone : s.cal.inTx = none) (hmark : c.mark = none) : (s.carrying (some c)).BlockBounds := by
  obtain ⟨hintake, hegress, hmarks⟩ := h.engine
  refine ⟨⟨hintake, hegress, Eq.trans ?_ hmarks⟩, h.port, h.receiver, h.ranges⟩
  rw [State.marks_some rfl, State.marks_none hnone, hmark]
  rfl

/-- R81, R146: the head of the control egress queue goes into transmission, with the restart mark it may carry. -/
theorem carryControl {k : EgressCell} {rest : List EgressCell} (h : s.BlockBounds) (hnone : s.cal.inTx = none)
    (hhead : s.engine.egress = k :: rest) :
    (State.carrying { s with engine := { s.engine with egress := rest } } (some (.control k))).BlockBounds := by
  obtain ⟨hintake, hegress, hmarks⟩ := h.engine
  rw [hhead, List.length_cons] at hegress
  refine ⟨⟨hintake, (Nat.le_succ _).trans hegress, Eq.trans ?_ hmarks⟩, h.port, h.receiver, h.ranges⟩
  rw [State.marks_some rfl, State.marks_none hnone, hhead, List.countP_cons]
  rfl

/-- R75, R76: the advance of the calendar stands in no bound. -/
theorem advance_transmit (h : (s.carrying (some c)).BlockBounds) : (s.advance.transmit c).BlockBounds := by
  obtain ⟨flags, hadvance, -⟩ := s.advance_parts
  rw [hadvance]
  exact h.of_keeps (.refl (s.carrying (some c)))

end State.BlockBounds

theorem slotEvent_keepsBlockBounds : KeepsBlockBounds State.slotEvent := fun s h => by
  unfold State.slotEvent
  split
  · exact h
  · next hnone =>
    have hcounted : s.KeepsBlocks s.slotSource.countSlot := by
      rw [State.slotSource_eq, State.countSlot_eq]
      exact .refl s
    have ht := h.of_keeps hcounted
    have htx := hcounted.2.1.trans hnone
    simp only
    generalize s.slotSource.countSlot = t at ht htx ⊢
    rcases t.choose_cases (t.cal.activeBank.entry t.cal.position) with ⟨k, rest, hhead, he⟩ | ⟨hkeeps, hmark⟩
    · rw [he]
      exact (ht.carryControl htx hhead).advance_transmit
    · refine ((ht.of_keeps hkeeps).carry (hkeeps.2.1.trans htx) ?_).advance_transmit
      cases hc : (t.choose (t.cal.activeBank.entry t.cal.position)).1 with
      | none => rfl
      | some c => exact hmark c hc

/-- R93, R121, R122, R146: what RESTART TRAFFIC does to the stores of the blocks. -/
theorem State.restartTraffic_blocks (s : State) :
    s.restartTraffic.engine = { s.engine with restartPending := false, lastReset := .traffic }
      ∧ s.restartTraffic.cal = s.cal.restarted ∧ s.restartTraffic.port = s.port.restarted
      ∧ s.restartTraffic.pool = s.pool.flush ∧ s.restartTraffic.rx = s.rx := by
  simp only [State.restartTraffic]
  split <;> split <;> simp

/-- R26, R50: RESTART TRAFFIC clears entries and refills meters, and keeps the settings, the sessions and the Event Unit. -/
theorem restartTraffic_ranges {s : State} (h : s.Ranges) : s.restartTraffic.Ranges := by
  obtain ⟨hsettings, hmeters, hhops, hidle, hevents⟩ := h
  have hkept : s.restartTraffic.settings = s.settings ∧ s.restartTraffic.sess = s.sess ∧ s.restartTraffic.events = s.events
      ∧ s.restartTraffic.bank.meters = s.bank.meters.map Meter.reloaded := by
    simp only [State.restartTraffic]
    split <;> split <;> simp
  obtain ⟨hkept, hsess, hunit, hbank⟩ := hkept
  refine ⟨hkept ▸ hsettings, fun m => ?_, fun i => ?_, hsess ▸ hidle, hunit ▸ hevents⟩
  · rw [State.meter, hbank, Table.get_map]
    exact hmeters m
  · rw [s.restartTraffic_frame.1, Table.get_map, StreamEntry.restarted]
    split
    · simp [StreamEntry.cleared]
    · exact hhops i

/-- R84: a completion takes the cell out of transmission. -/
theorem finishTx_keepsBlocks (s : State) (c : TxCell) : (s.carrying none).KeepsBlocks (s.finishTx c) := by
  cases c with
  | pool c q => exact .refl (s.carrying none)
  | control k =>
    simp only [State.finishTx]
    split <;> exact .refl (s.carrying none)
  | idle => exact .refl (s.carrying none)

namespace State.BlockBounds

variable {s : State} {c : TxCell}

theorem finishTx (h : s.BlockBounds) (hin : s.cal.inTx = some c) (hmark : c.mark = none) : (s.finishTx c).BlockBounds := by
  obtain ⟨hintake, hegress, hmarks⟩ := h.engine
  refine State.BlockBounds.of_keeps (s := s.carrying none) ⟨⟨hintake, hegress, Eq.trans ?_ hmarks⟩, h.port, h.receiver, h.ranges⟩
    (finishTx_keepsBlocks s c)
  rw [State.marks_none rfl, State.marks_some hin, hmark]
  rfl

/-- R147: RESTART TRAFFIC empties staging and the drop queue, and its mark was the one that the restart was pending for, so no other
cell carries one. -/
theorem restartTraffic (h : s.BlockBounds) (hin : s.cal.inTx = some c) (hmark : c.mark.isSome) :
    (s.finishTx c).restartTraffic.BlockBounds := by
  obtain ⟨hintake, hegress, hmarks⟩ := h.engine
  have hnone : (s.engine.egress.countP fun k => k.mark.isSome) = 0 := by
    rw [State.marks_some hin, if_pos hmark] at hmarks
    split at hmarks <;> omega
  obtain ⟨hfinished, htx, -, hreceiver, -, hranges⟩ := finishTx_keepsBlocks s c
  obtain ⟨hengine, hcal, hport, hpool, hrx⟩ := (s.finishTx c).restartTraffic_blocks
  rw [hfinished] at hengine
  refine ⟨⟨by rwa [hengine], by rwa [hengine], ?_⟩, ?_, ?_, restartTraffic_ranges (hranges h.ranges)⟩
  · rw [State.marks_none (by rw [hcal, Calendar.restarted_eq]; exact htx), hengine]
    exact hnone
  · simp [State.PortOk, hport, hpool, LocalPort.restarted, Pool.flush, LocalPort.slotsInUse, OpenCell.isPlaced, OpenCell.Ok]
  · exact h.receiver.of_rx (hrx.trans hreceiver)

end State.BlockBounds

theorem completeSlot_keepsBlockBounds (straps : BitVec 6) : KeepsBlockBounds (State.completeSlot straps) := fun s h => by
  unfold State.completeSlot
  split
  · exact h
  · next c hin =>
    split
    · next hmark => exact h.finishTx hin hmark
    · next hmark => exact h.restartTraffic hin (by simp [hmark])
    · exact .of_powerOn rfl rfl rfl rfl rfl rfl rfl rfl resetIsLawful.ranges

/-! ### The sessions and their ticks (R132 to R134) -/

theorem teardown_keepsBlocks (s : State) (i : Fin 4) : s.KeepsBlocks (s.teardown i) := by
  rw [State.teardown_eq]
  exact .trans (.setSession (i := i) (x := none) fun _ => nofun) (.refl _)

theorem raiseIdle_keepsBlocks (s : State) : s.KeepsBlocks s.raiseIdle := by
  refine ⟨rfl, rfl, rfl, rfl, id, fun ⟨hsettings, hmeters, hhops, hidle, hevents⟩ =>
    ⟨hsettings, hmeters, hhops, fun i y hy => ?_, hevents⟩⟩
  simp only [State.raiseIdle, Table.get_map, Option.map_eq_some_iff] at hy
  obtain ⟨x, -, rfl⟩ := hy
  exact Nat.min_le_right _ _

theorem sessionTick_keepsBlocks (s : State) : s.KeepsBlocks s.sessionTick := by
  have hraised : s.KeepsBlocks ({ s with handover := { s.handover with
      sessionTicks := s.handover.sessionTicks - 1 } } : State).raiseIdle := .trans (.refl s) (raiseIdle_keepsBlocks _)
  unfold State.sessionTick State.expireSessions
  split
  · exact hraised
  · exact (hraised.trans (.foldl teardown_keepsBlocks _ _)).trans (hand_keepsBlocks _ _)

theorem takeSessionTick_keepsBlocks (s : State) : s.KeepsBlocks s.takeSessionTick := by
  unfold State.takeSessionTick
  split
  · exact .refl s
  · exact sessionTick_keepsBlocks s

theorem takeSessionExpiry_keepsBlocks (s : State) : s.KeepsBlocks s.takeSessionExpiry := by
  unfold State.takeSessionExpiry
  split
  · exact .refl s
  · split
    · exact .refl s
    · exact sessionTick_keepsBlocks s

/-! ### The Event Unit (R162 to R169) -/

theorem EventUnit.InRange.timedOut {u : EventUnit} (h : u.InRange) : u.timedOut.InRange := by
  obtain ⟨hretries, -⟩ := h
  unfold EventUnit.timedOut
  split
  · exact ⟨(Nat.sub_le _ _).trans hretries, nofun⟩
  · exact ⟨hretries, nofun⟩

/-- R169: the timer stays below the timeout, which is at most 255. -/
theorem EventUnit.InRange.tick {u : EventUnit} {timeout : Nat} (h : u.InRange) (htimeout : timeout ≤ 255) :
    (u.tick timeout).InRange := by
  obtain ⟨hretries, -⟩ := id h
  unfold EventUnit.tick
  split
  · exact h
  · split
    · exact h.timedOut
    · next t _ hlt =>
      refine ⟨hretries, fun x hx => ?_⟩
      cases hx
      omega

theorem eventTick_keepsBlocks (s : State) : s.KeepsBlocks s.eventTick :=
  .trans (.withEvents fun ⟨_, ⟨_, hmax⟩, _⟩ hu => hu.tick hmax) (.refl _)

theorem takeEventTick_keepsBlocks (s : State) : s.KeepsBlocks s.takeEventTick := by
  unfold State.takeEventTick
  split
  · exact .refl s
  · exact eventTick_keepsBlocks s

theorem takeTimeout_keepsBlocks (s : State) : s.KeepsBlocks s.takeTimeout := by
  unfold State.takeTimeout
  split
  · exact .refl s
  · split
    · exact eventTick_keepsBlocks s
    · exact .refl s

theorem setFlag_keepsBlocks (f : EventFlag) (s : State) : s.KeepsBlocks (s.setFlag f) := by
  unfold State.setFlag
  split
  · exact .refl s
  · exact .trans (.withEvents (v := s.events.occurrence f) fun _ hu => hu) (.refl _)

/-- R165: a report is built with the retries that the setting gives, and its timer stopped. -/
theorem buildReport_keepsBlocks (s : State) : s.KeepsBlocks s.buildReport := by
  unfold State.buildReport
  split
  · exact .refl s
  · split
    · exact .withEvents fun ⟨_, _, hretries, _⟩ _ => ⟨hretries, nofun⟩
    · exact .refl s

theorem issueReport_keepsBlockBounds : KeepsBlockBounds State.issueReport := fun s h => by
  unfold State.issueReport
  split
  · exact h
  · split
    · next hroom => exact State.BlockBounds.joinEgress (h.of_keeps (.withEvents fun _ hu => hu)) (of_decide_eq_true hroom) rfl
    · exact h

/-- R168: the timer starts at 0. -/
theorem sendingComplete_keepsBlocks (s : State) : s.KeepsBlocks s.sendingComplete := by
  unfold State.sendingComplete
  split
  · exact .refl s
  · next n _ _ =>
    refine .trans (.withEvents (v := s.events.sendingComplete n) fun _ hu => ?_) (.refl _)
    obtain ⟨hretries, htimer⟩ := hu
    unfold EventUnit.sendingComplete
    split
    · exact ⟨hretries, fun t ht => by cases ht; omega⟩
    · exact ⟨hretries, htimer⟩

end Sys2Proof.Machine
end

section
/-! PROOF. The intake commands and the step: the bounds of the blocks are kept. -/

namespace Sys2Proof.Machine

-- One proof body at a time: each thread reserves memory, and the whole text as one file comes close to the limit of the check.
set_option Elab.async false

/-! ### The execution of an intake command (R126 to R132) -/

/-- R126: no restart is pending and the control egress queue has a free place, as an execution finds the part. -/
def State.Ready (s : State) : Prop := s.engine.restartPending = false ∧ s.engine.egress.length < 8

theorem State.Ready.of_keeps {s t : State} (h : s.Ready) (ht : s.KeepsBlocks t) : t.Ready := by
  rwa [State.Ready, ht.1]

theorem State.BlockBounds.beginExecution {s : State} {k : ControlCell} {rest : List ControlCell} (h : s.BlockBounds)
    (hhead : s.engine.intake = k :: rest) : (s.beginExecution rest).BlockBounds := by
  obtain ⟨hintake, hegress, hmarks⟩ := h.engine
  rw [hhead, List.length_cons] at hintake
  exact ⟨⟨(Nat.le_succ _).trans hintake, hegress, hmarks⟩, h.port, h.receiver, h.ranges⟩

/-- R127: a reply without a restart mark takes the free place. -/
theorem State.BlockBounds.sendReply {s : State} (h : s.BlockBounds) (hready : s.Ready) (k : ControlCell) :
    (s.sendReply k).BlockBounds := h.joinEgress hready.2 rfl

/-- R126: an execution keeps the bounds where the steps after step 1 of R128 do, on a part that is ready for it. -/
theorem KeepsBlockBounds.execution {op : Option Op} {body : Control → State → State}
    (hb : ∀ c (s : State), s.BlockBounds → s.Ready → (body c s).BlockBounds) : KeepsBlockBounds (execution op body) := fun s h => by
  rcases execution_cases op body s with he | ⟨k, rest, htaken, -, he⟩
  · rwa [he]
  · obtain ⟨hhead, hready⟩ := State.executable_eq_some.1 htaken
    have hbegun := h.beginExecution hhead
    rcases he with he | ⟨-, he⟩ <;> rw [he]
    · exact hbegun.sendReply hready _
    · exact hb _ _ hbegun hready

theorem restartIdle_keepsBlocks (s : State) (i : Fin 4) : s.KeepsBlocks (s.restartIdle i) := by
  unfold State.restartIdle
  split
  · refine .setSession fun _ y hy => ?_
    cases hy
    exact Nat.zero_le _
  · exact .refl s

/-- R130, R131: a session keeps its idle timer while its SEQ or its cached reply changes. -/
theorem updateSession_keepsBlocks {s : State} {i : Fin 4} {x y : Session} (hx : s.sess.entries.get i = some x)
    (hidle : y.idleTimer = x.idleTimer) : s.KeepsBlocks (s.setSession i (some y)) := by
  refine .setSession fun ⟨_, _, _, hmax, _⟩ z hz => ?_
  cases hz
  exact hidle ▸ hmax i x hx

theorem advanceSeq_keepsBlocks (s : State) (i : Fin 4) (n : Byte) : s.KeepsBlocks (s.advanceSeq i n) := by
  unfold State.advanceSeq
  split
  · next x hx => exact updateSession_keepsBlocks hx rfl
  · exact .refl s

theorem cacheReply_keepsBlocks (s : State) (i : Fin 4) (k : ControlCell) : s.KeepsBlocks (s.cacheReply i k) := by
  unfold State.cacheReply
  split
  · next x hx => exact updateSession_keepsBlocks hx rfl
  · exact .refl s

/-- A command's own part that leaves the engine to the reply, which carries no restart mark. -/
structure Done.Plain (d : Done) (s : State) : Prop where
  keeps : s.KeepsBlocks d.state
  mark  : d.mark = none

theorem Done.Plain.same (s : State) (r : Reply) : (Done.same s r).Plain s := ⟨.refl s, rfl⟩

/-- The bounds after a command's own part, once its reply has joined the control egress queue. -/
def OwnKeepsBlockBounds (own : Control → Fin 4 → State → Done) : Prop :=
  ∀ c i (s : State), s.BlockBounds → s.Ready → (s.conclude c i (own c i s)).BlockBounds

theorem Done.Plain.conclude {d : Done} {s : State} (hd : d.Plain s) (h : s.BlockBounds) (hready : s.Ready) (c : Control) (i : Fin 4) :
    (s.conclude c i d).BlockBounds := by
  have hkeeps := hd.keeps.trans (cacheReply_keepsBlocks d.state i (s.replyCell c d.reply))
  exact (h.of_keeps hkeeps).joinEgress (hready.of_keeps hkeeps).2 hd.mark

/-- R128: the steps around a command's own part keep the bounds. -/
theorem OwnKeepsBlockBounds.inSession {claim : Control → Bool} {own : Control → Fin 4 → State → Done} (ho : OwnKeepsBlockBounds own)
    (c : Control) (s : State) (h : s.BlockBounds) (hready : s.Ready) : (inSession claim own c s).BlockBounds := by
  unfold Machine.inSession
  split
  · exact h.sendReply hready _
  · next i _ =>
    have hidle := h.of_keeps (restartIdle_keepsBlocks s i)
    have hidleReady := hready.of_keeps (restartIdle_keepsBlocks s i)
    simp only
    split
    · exact hidle
    · split
      · have hseq := hidle.of_keeps (advanceSeq_keepsBlocks _ i c.seq)
        have hseqReady := hidleReady.of_keeps (advanceSeq_keepsBlocks _ i c.seq)
        split
        · exact (Done.Plain.same _ _).conclude hseq hseqReady c i
        · exact ho c i _ hseq hseqReady
      · split <;> exact hidle.sendReply hidleReady _

/-- An intake command whose own part, with its reply, keeps the bounds keeps them. -/
theorem intake_keepsBlockBounds {op : Option Op} {claim : Control → Bool} {own : Control → Fin 4 → State → Done}
    (ho : OwnKeepsBlockBounds own) : KeepsBlockBounds (live (execution op (inSession claim own))) :=
  (KeepsBlockBounds.execution ho.inSession).live

/-- The same for every intake command but RESTART: its own part leaves the engine to its reply. -/
theorem plain_keepsBlockBounds {op : Option Op} {claim : Control → Bool} {own : Control → Fin 4 → State → Done}
    (ho : ∀ c i (s : State), (own c i s).Plain s) : KeepsBlockBounds (live (execution op (inSession claim own))) :=
  intake_keepsBlockBounds fun c i s h hready => (ho c i s).conclude h hready c i

/-! ### RESTART (R146) -/

/-- R146: a restart is pending, and nothing else changes. -/
def State.withRestartPending (s : State) : State := { s with engine := { s.engine with restartPending := true } }

theorem State.cacheReply_withRestartPending (s : State) (i : Fin 4) (k : ControlCell) :
    s.withRestartPending.cacheReply i k = (s.cacheReply i k).withRestartPending := by
  simp only [State.cacheReply, State.withRestartPending]
  split <;> rfl

/-- R146: a restart becomes pending with the one mark that its reply carries. -/
theorem State.BlockBounds.joinRestartReply {s : State} {c : EgressCell} (h : s.BlockBounds) (hready : s.Ready)
    (hmark : c.mark.isSome = true) : (s.withRestartPending.joinEgress c).BlockBounds := by
  obtain ⟨hpending, hroom⟩ := hready
  obtain ⟨hintake, -, hmarks⟩ := h.engine
  refine ⟨⟨hintake, ?_, ?_⟩, h.port, h.receiver, h.ranges⟩
  · simpa [State.withRestartPending] using hroom
  · have hnone : s.withRestartPending.marks = 0 := by
      rw [hpending] at hmarks
      exact hmarks
    rw [State.marks_joinEgress, hnone, hmark]
    rfl

theorem ownRestart_keepsBlockBounds : OwnKeepsBlockBounds ownRestart := fun c i s h hready => by
  unfold ownRestart
  split
  · exact (Done.Plain.same s _).conclude h hready c i
  · next kind _ =>
    have hkeeps := cacheReply_keepsBlocks s i (s.replyCell c { status := .ok, arg := c.arg })
    show ((s.withRestartPending.cacheReply i _).joinEgress _).BlockBounds
    rw [State.cacheReply_withRestartPending]
    exact (h.of_keeps hkeeps).joinRestartReply (hready.of_keeps hkeeps) rfl

/-! ### The settings (R142, R143, R175) -/

theorem inRange_iff {lo hi x : Nat} : inRange lo hi x = true ↔ lo ≤ x ∧ x ≤ hi := by
  simp only [inRange, Bool.and_eq_true, decide_eq_true_eq]

/-- R142: a hop of 1..15 is not 0 in its four bits. -/
theorem setWidth_hop_ne_zero {w : Word} (hw : 1 ≤ w.toNat ∧ w.toNat ≤ 15) : w.setWidth 4 ≠ 0 := fun h => by
  have hmod : w.toNat % 16 = 0 := by simpa using congrArg BitVec.toNat h
  omega

/-- R142: SET leaves every setting in its range. -/
theorem setSetting_inRange {x y : Settings} {name : SettingName} {w : Word} (h : x.InRange) (hy : setSetting x name w = some y) :
    y.InRange := by
  obtain ⟨hdrop, htimeout, hretries, hsession, hhop⟩ := h
  cases name with
  | unknownPolicy =>
    simp only [setSetting] at hy
    split at hy
    · cases hy
      exact ⟨hdrop, htimeout, hretries, hsession, hhop⟩
    · obtain ⟨-, he⟩ := Option.ite_none_right_eq_some.1 hy
      cases he
      exact ⟨hdrop, htimeout, hretries, hsession, hhop⟩
  | unknownQueue | reportTarget =>
    obtain ⟨_, -, rfl⟩ := Option.map_eq_some_iff.1 hy
    exact ⟨hdrop, htimeout, hretries, hsession, hhop⟩
  | reportMask =>
    obtain ⟨-, he⟩ := Option.ite_none_right_eq_some.1 hy
    cases he
    exact ⟨hdrop, htimeout, hretries, hsession, hhop⟩
  | dropLimit =>
    obtain ⟨hw, he⟩ := Option.ite_none_right_eq_some.1 hy
    cases he
    exact ⟨(inRange_iff.1 hw).2, htimeout, hretries, hsession, hhop⟩
  | reportTimeout =>
    obtain ⟨hw, he⟩ := Option.ite_none_right_eq_some.1 hy
    cases he
    exact ⟨hdrop, inRange_iff.1 hw, hretries, hsession, hhop⟩
  | reportRetries =>
    obtain ⟨hw, he⟩ := Option.ite_none_right_eq_some.1 hy
    cases he
    exact ⟨hdrop, htimeout, (inRange_iff.1 hw).2, hsession, hhop⟩
  | sessionTimeout =>
    obtain ⟨hw, he⟩ := Option.ite_none_right_eq_some.1 hy
    cases he
    exact ⟨hdrop, htimeout, hretries, inRange_iff.1 hw, hhop⟩
  | controlHop =>
    obtain ⟨hw, he⟩ := Option.ite_none_right_eq_some.1 hy
    cases he
    exact ⟨hdrop, htimeout, hretries, hsession, setWidth_hop_ne_zero (inRange_iff.1 hw)⟩

theorem EventUnit.InRange.toIdle {u : EventUnit} {n : Nat} (hn : n ≤ 7) : (u.toIdle n).InRange := ⟨hn, nofun⟩

theorem EventUnit.InRange.settingsChanged {u : EventUnit} {old new : Settings} (h : u.InRange) (hnew : new.InRange) :
    (u.settingsChanged old new).InRange := by
  obtain ⟨-, -, hretries, -⟩ := hnew
  unfold EventUnit.settingsChanged
  split
  · exact .toIdle hretries
  · exact h

/-! ### The own parts of the other commands -/

section
variable (c : Control) (i : Fin 4) (s : State)

theorem ownSet_plain : (ownSet c i s).Plain s := by
  unfold ownSet
  split
  · exact .same s _
  · split
    · exact .same s _
    · next x hx =>
      split
      · exact .same s _
      · refine ⟨⟨rfl, rfl, rfl, rfl, id, fun ⟨hsettings, hmeters, hhops, hidle, hevents⟩ => ?_⟩, rfl⟩
        have hx := setSetting_inRange hsettings hx
        exact ⟨hx, hmeters, hhops, hidle, EventUnit.InRange.settingsChanged hevents hx⟩

theorem ownGet_plain : (ownGet c i s).Plain s := by
  unfold ownGet
  split <;> exact .same s _

theorem ownCalWrite_plain : (ownCalWrite c i s).Plain s := by
  unfold ownCalWrite
  split
  · split
    · exact .same s _
    · split
      · exact .same s _
      · exact ⟨.of_frame (by simp [Calendar.setShadow_inTx]), rfl⟩
  · exact .same s _

theorem ownCalLength_plain : (ownCalLength c i s).Plain s := by
  unfold ownCalLength
  split
  · split
    · exact .same s _
    · exact ⟨.of_frame (by simp [Calendar.setShadow_inTx]), rfl⟩
  · exact .same s _

theorem ownCalCopy_plain : (ownCalCopy c i s).Plain s := by
  unfold ownCalCopy
  split
  · exact .same s _
  · exact ⟨.of_frame (by simp [Calendar.setShadow_inTx]), rfl⟩

theorem ownCalRead_plain : (ownCalRead c i s).Plain s := by
  unfold ownCalRead
  split
  · exact .same s _
  · split <;> exact .same s _

theorem ownCalCommit_plain : (ownCalCommit c i s).Plain s := by
  unfold ownCalCommit
  split
  · exact .same s _
  · split
    · exact .same s _
    · exact ⟨.refl s, rfl⟩

theorem ownCalCancel_plain : (ownCalCancel c i s).Plain s := by
  unfold ownCalCancel
  split
  · exact ⟨.refl s, rfl⟩
  · exact .same s _

theorem ownEventClear_plain : (ownEventClear c i s).Plain s := by
  unfold ownEventClear
  split
  · exact .same s _
  · exact ⟨.withEvents fun _ hu => hu, rfl⟩

theorem ownReportAck_plain : (ownReportAck c i s).Plain s := by
  simp only [ownReportAck]
  split_ifs
  · exact .same s _
  · exact .same s _
  · exact .same s _
  · exact .same s _
  · exact ⟨.withEvents fun ⟨_, _, hretries, _⟩ _ => .toIdle hretries, rfl⟩

theorem ownReportRearm_plain : (ownReportRearm c i s).Plain s := by
  unfold ownReportRearm
  split_ifs
  · exact .same s _
  · exact ⟨.withEvents fun ⟨_, _, hretries, _⟩ _ => .toIdle hretries, rfl⟩
  · exact .same s _

theorem writeMeter_keepsBlocks {m : Fin 128} {x : Meter} (hx : (s.meter m).InRange → x.InRange) :
    s.KeepsBlocks (s.writeMeter m x) := by
  have hunname (t : State) (p : Option (Fin 128)) : t.KeepsBlocks (t.unname p) := by
    cases p with
    | none => exact .refl t
    | some n => exact .setMeter id
  have hname (t : State) (p : Option (Fin 128)) : t.KeepsBlocks (t.name p) := by
    cases p with
    | none => exact .refl t
    | some n => exact .setMeter id
  have hset : s.KeepsBlocks (s.setMeter m x) := .setMeter hx
  simp only [State.writeMeter]
  split
  · exact hset
  · exact (hset.trans (hunname _ _)).trans (hname _ _)

/-- R40: METER-SET leaves the configured fields in their ranges. -/
theorem Meter.changed_inRange {x y : Meter} (h : x.InRange) (hy : x.changed c.arg (meterFields c) = some y) : y.InRange := by
  obtain ⟨hlimit, hincrement, hperiod⟩ := h
  obtain ⟨limit, increment, period, source, partner, hl, hi, hp, -, -, rfl⟩ := Meter.changed_eq_some.1 hy
  exact ⟨selected_amount_range hl hlimit, selected_amount_range hi hincrement, selected_amount_range hp hperiod⟩

theorem ownMeterSet_plain : (ownMeterSet c i s).Plain s := by
  unfold ownMeterSet
  split
  · exact .same s _
  · split
    · exact .same s _
    · next x hx =>
      split_ifs
      · exact .same s _
      · exact .same s _
      · exact ⟨writeMeter_keepsBlocks s fun h => Meter.changed_inRange c h hx, rfl⟩

theorem ownMeterRead_plain : (ownMeterRead c i s).Plain s := by
  unfold ownMeterRead
  split <;> exact .same s _

theorem setRunState_plain (running : Bool) : (setRunState running c s).Plain s := by
  unfold setRunState
  split
  · exact .same s _
  · next ms _ =>
    have hkeeps : s.KeepsBlocks (s.setRunning running ms) :=
      .foldl (f := fun (t : State) m => t.setMeter m { t.meter m with running := running }) (fun t m => .setMeter id) ms s
    exact ⟨hkeeps, rfl⟩

theorem ownMeterReload_plain : (ownMeterReload c i s).Plain s := by
  unfold ownMeterReload
  split
  · exact .same s _
  · exact ⟨.setMeter id, rfl⟩

theorem ownQueueSet_plain : (ownQueueSet c i s).Plain s := by
  unfold ownQueueSet
  split
  · exact .same s _
  · split
    · exact .same s _
    · split
      · exact .same s _
      · exact ⟨.of_frame (by simp), rfl⟩

theorem ownQueueRead_plain : (ownQueueRead c i s).Plain s := by
  simp only [ownQueueRead]
  split
  · exact .same s _
  · split <;> exact .same s _

theorem ownClose_plain : (ownClose c i s).Plain s := ⟨teardown_keepsBlocks s i, rfl⟩

theorem ownClaim_plain : (ownClaim c i s).Plain s := by
  unfold ownClaim
  split
  · exact ⟨.refl s, rfl⟩
  · split <;> exact .same s _

theorem ownRelease_plain : (ownRelease c i s).Plain s := by
  unfold ownRelease
  split
  · exact ⟨.refl s, rfl⟩
  · exact .same s _

theorem ownStreamAdd_plain : (ownStreamAdd c i s).Plain s := by
  unfold ownStreamAdd
  split
  · exact .same s _
  · next e he =>
    obtain ⟨-, -, -, hhop⟩ := StreamFields.entry_some he
    split
    · exact .same s _
    · split
      · exact .same s _
      · next n _ =>
        exact ⟨.trans (.setStream (i := n) (e := e) fun _ => decodeHop_ne_zero hhop) (.refl _), rfl⟩

theorem ownStreamSet_plain : (ownStreamSet c i s).Plain s := by
  unfold ownStreamSet
  split
  · exact .same s _
  · simp only
    split
    · exact .same s _
    · exact .same s _
    · split
      · exact .same s _
      · next x hx =>
        obtain ⟨-, -, -, hhop⟩ := StreamEntry.changed_some hx
        split
        · exact .same s _
        · exact ⟨.setStream fun hold => hhop.elim (fun hkept => hkept ▸ hold) decodeHop_ne_zero, rfl⟩

theorem ownStreamRemove_plain : (ownStreamRemove c i s).Plain s := by
  unfold ownStreamRemove
  split
  · exact .same s _
  · simp only
    split
    · exact .same s _
    · exact .same s _
    · split
      · exact ⟨.trans (.setStream fun _ => by simp [StreamEntry.cleared]) (hand_keepsBlocks _ _), rfl⟩
      · exact ⟨.setStream id, rfl⟩

theorem ownStreamRead_plain : (ownStreamRead c i s).Plain s := by
  unfold ownStreamRead
  split <;> exact .same s _

theorem ownStreamFind_plain : (ownStreamFind c i s).Plain s := by
  unfold ownStreamFind
  split
  · exact .same s _
  · simp only
    split <;> exact .same s _

theorem ownSnapTake_plain : (ownSnapTake c i s).Plain s := by
  unfold ownSnapTake
  split
  · exact .same s _
  · split
    · exact .same s _
    · split
      · exact .same s _
      · exact ⟨.refl s, rfl⟩

theorem ownSnapRead_plain : (ownSnapRead c i s).Plain s := by
  simp only [ownSnapRead]
  split
  · exact .same s _
  · split <;> exact .same s _

theorem ownSnapRelease_plain : (ownSnapRelease c i s).Plain s := by
  unfold ownSnapRelease
  split
  · exact .same s _
  · split
    · exact ⟨.refl s, rfl⟩
    · exact .same s _

end

/-! ### DISCOVER and OPEN (R135, R136) -/

theorem bodyDiscover_keepsBlockBounds (c : Control) (s : State) (h : s.BlockBounds) (hready : s.Ready) :
    (bodyDiscover c s).BlockBounds := by
  simp only [bodyDiscover]
  split
  · next i _ =>
    have hkeeps := restartIdle_keepsBlocks s i
    exact (h.of_keeps hkeeps).sendReply (hready.of_keeps hkeeps) _
  · exact h.sendReply hready _

/-- R136: a new session starts with an idle timer of 0. -/
theorem State.BlockBounds.newSession {s : State} (h : s.BlockBounds) (hready : s.Ready) (c : Control) (i : Fin 4) :
    (s.newSession c i).BlockBounds := by
  have hopened (k : ControlCell) : s.KeepsBlocks (s.setSession i (some
      { manager := c.src.setWidth 6, lastSeq := c.seq, cached := k, idleTimer := 0 })) :=
    .setSession fun _ y hy => by
      cases hy
      exact Nat.zero_le _
  exact (h.of_keeps (hopened _)).sendReply (hready.of_keeps (hopened _)) _

theorem bodyOpen_keepsBlockBounds (c : Control) (s : State) (h : s.BlockBounds) (hready : s.Ready) : (bodyOpen c s).BlockBounds := by
  unfold bodyOpen
  split
  · next i _ =>
    split
    · exact h
    · split
      · have hkeeps := restartIdle_keepsBlocks s i
        exact (h.of_keeps hkeeps).sendReply (hready.of_keeps hkeeps) _
      · have hkeeps := (teardown_keepsBlocks s i).trans (hand_keepsBlocks _ .sessionEnded)
        exact (h.of_keeps hkeeps).newSession (hready.of_keeps hkeeps) c i
  · split
    · exact h.newSession hready c _
    · exact h.sendReply hready _

/-! ### Every command, and the step -/

/-- R95 to R98, R112, R118, R125, R127, R129, R142, R146, R163: every command keeps the bounds of the blocks. -/
theorem exec_keepsBlockBounds (c : Instr) (s : State) (h : s.BlockBounds) : ∃ t, exec c s = .next t ∧ t.BlockBounds :=
  match c with
  | .powerOn => ⟨_, rfl, .of_powerOn rfl rfl rfl rfl rfl rfl rfl rfl resetIsLawful.ranges⟩
  | .resetPinRelease straps => ⟨_, rfl, releasePin_keepsBlockBounds straps s h⟩
  | .huntWindowTest b => ⟨_, rfl, (huntByte_keepsBlockBounds b).live s h⟩
  | .headerTest w => ⟨_, rfl, (testHeader_keepsBlockBounds w).live s h⟩
  | .ringCellArrival p => ⟨_, rfl, (handOn_keepsBlockBounds p).live s h⟩
  | .slotSourceEvent m => ⟨_, rfl, KeepsBlockBounds.live_of_keeps (takeSourceOperand_keepsBlocks _ m) s h⟩
  | .markSourceEvent _ m => ⟨_, rfl, KeepsBlockBounds.live_of_keeps (takeSourceOperand_keepsBlocks _ m) s h⟩
  | .cascadeSourceEvent _ m => ⟨_, rfl, KeepsBlockBounds.live_of_keeps (takeSourceOperand_keepsBlocks _ m) s h⟩
  | .meterExpiry m => ⟨_, rfl, KeepsBlockBounds.live_of_keeps (takeExpiry_keepsBlocks m) s h⟩
  | .addWordFirst w => ⟨_, rfl, (addFirst_keepsBlockBounds w).portEdge.live s h⟩
  | .addWordContinue w => ⟨_, rfl, (addContinue_keepsBlockBounds w).portEdge.live s h⟩
  | .localCellArrival => ⟨_, rfl, localArrival_keepsBlockBounds.live s h⟩
  | .dropTake => ⟨_, rfl, takeDrop_keepsBlockBounds.portEdge.live s h⟩
  | .slotEvent => ⟨_, rfl, slotEvent_keepsBlockBounds.live s h⟩
  | .sessionTick => ⟨_, rfl, KeepsBlockBounds.live_of_keeps takeSessionTick_keepsBlocks s h⟩
  | .sessionExpiry => ⟨_, rfl, KeepsBlockBounds.live_of_keeps takeSessionExpiry_keepsBlocks s h⟩
  | .eventUnitTick => ⟨_, rfl, KeepsBlockBounds.live_of_keeps takeEventTick_keepsBlocks s h⟩
  | .reportTimeout => ⟨_, rfl, KeepsBlockBounds.live_of_keeps takeTimeout_keepsBlocks s h⟩
  | .slotCompletion straps => ⟨_, rfl, (completeSlot_keepsBlockBounds straps).live s h⟩
  | .reportSendingComplete => ⟨_, rfl, KeepsBlockBounds.live_of_keeps sendingComplete_keepsBlocks s h⟩
  | .eventFlagSet f => ⟨_, rfl, by
      split
      · exact h
      · exact h.of_keeps (setFlag_keepsBlocks f s)⟩
  | .reportBuild => ⟨_, rfl, KeepsBlockBounds.live_of_keeps buildReport_keepsBlocks s h⟩
  | .reportIssue => ⟨_, rfl, issueReport_keepsBlockBounds.live s h⟩
  | .badOp => ⟨_, rfl, plain_keepsBlockBounds (fun _ _ s => .same s _) s h⟩
  | .discover => ⟨_, rfl, (KeepsBlockBounds.execution bodyDiscover_keepsBlockBounds).live s h⟩
  | .openSession => ⟨_, rfl, (KeepsBlockBounds.execution bodyOpen_keepsBlockBounds).live s h⟩
  | .closeSession => ⟨_, rfl, plain_keepsBlockBounds ownClose_plain s h⟩
  | .ping => ⟨_, rfl, plain_keepsBlockBounds (fun _ _ s => .same s _) s h⟩
  | .claim => ⟨_, rfl, plain_keepsBlockBounds ownClaim_plain s h⟩
  | .release => ⟨_, rfl, plain_keepsBlockBounds ownRelease_plain s h⟩
  | .set => ⟨_, rfl, plain_keepsBlockBounds ownSet_plain s h⟩
  | .get => ⟨_, rfl, plain_keepsBlockBounds ownGet_plain s h⟩
  | .status => ⟨_, rfl, plain_keepsBlockBounds (fun _ _ s => .same s _) s h⟩
  | .restart => ⟨_, rfl, intake_keepsBlockBounds ownRestart_keepsBlockBounds s h⟩
  | .streamAdd => ⟨_, rfl, plain_keepsBlockBounds ownStreamAdd_plain s h⟩
  | .streamSet => ⟨_, rfl, plain_keepsBlockBounds ownStreamSet_plain s h⟩
  | .streamRemove => ⟨_, rfl, plain_keepsBlockBounds ownStreamRemove_plain s h⟩
  | .streamRead => ⟨_, rfl, plain_keepsBlockBounds ownStreamRead_plain s h⟩
  | .streamFind => ⟨_, rfl, plain_keepsBlockBounds ownStreamFind_plain s h⟩
  | .meterSet => ⟨_, rfl, plain_keepsBlockBounds ownMeterSet_plain s h⟩
  | .meterRead => ⟨_, rfl, plain_keepsBlockBounds ownMeterRead_plain s h⟩
  | .meterHold => ⟨_, rfl, plain_keepsBlockBounds (fun c _ s => setRunState_plain c s false) s h⟩
  | .meterRun => ⟨_, rfl, plain_keepsBlockBounds (fun c _ s => setRunState_plain c s true) s h⟩
  | .meterReload => ⟨_, rfl, plain_keepsBlockBounds ownMeterReload_plain s h⟩
  | .queueSet => ⟨_, rfl, plain_keepsBlockBounds ownQueueSet_plain s h⟩
  | .queueRead => ⟨_, rfl, plain_keepsBlockBounds ownQueueRead_plain s h⟩
  | .calWrite => ⟨_, rfl, plain_keepsBlockBounds ownCalWrite_plain s h⟩
  | .calLength => ⟨_, rfl, plain_keepsBlockBounds ownCalLength_plain s h⟩
  | .calCopy => ⟨_, rfl, plain_keepsBlockBounds ownCalCopy_plain s h⟩
  | .calRead => ⟨_, rfl, plain_keepsBlockBounds ownCalRead_plain s h⟩
  | .calCommit => ⟨_, rfl, plain_keepsBlockBounds ownCalCommit_plain s h⟩
  | .calCancel => ⟨_, rfl, plain_keepsBlockBounds ownCalCancel_plain s h⟩
  | .snapTake => ⟨_, rfl, plain_keepsBlockBounds ownSnapTake_plain s h⟩
  | .snapRead => ⟨_, rfl, plain_keepsBlockBounds ownSnapRead_plain s h⟩
  | .snapRelease => ⟨_, rfl, plain_keepsBlockBounds ownSnapRelease_plain s h⟩
  | .eventRead => ⟨_, rfl, plain_keepsBlockBounds (fun _ _ s => .same s _) s h⟩
  | .eventClear => ⟨_, rfl, plain_keepsBlockBounds ownEventClear_plain s h⟩
  | .reportAck => ⟨_, rfl, plain_keepsBlockBounds ownReportAck_plain s h⟩
  | .reportRearm => ⟨_, rfl, plain_keepsBlockBounds ownReportRearm_plain s h⟩

/-- A step keeps the bounds: the command at the front of the queue does, and so does an edge of LCLK. -/
theorem step_keepsBlockBounds {s t : State} (h : s.BlockBounds) (hstep : step s = .next t) : t.BlockBounds := by
  unfold step at hstep
  split at hstep
  · cases hstep
    exact ⟨h.engine, h.port, h.receiver, h.ranges⟩
  · next c rest _ =>
    obtain ⟨u, hu, hbounds⟩ := exec_keepsBlockBounds c { s with pending := rest } (h.of_keeps (.refl s))
    cases hu.symm.trans hstep
    exact hbounds

/-- Settles O60: the bounds together are the invariant `State.BlockBounds`. -/
theorem blockBoundsKept : Obligations.BlockBoundsKept := by
  intro s t engine port receiver ranges hstep
  obtain ⟨engine, port, receiver, ranges⟩ := step_keepsBlockBounds ⟨engine, port, receiver, ranges⟩ hstep
  exact ⟨engine, port, receiver, ranges⟩

end Sys2Proof.Machine
end

section
/-! PROOF. The resets: the release of the pin (R101, R121) and RESTART ALL (R148); and events whose occasion is absent. -/

namespace Sys2Proof.Machine

-- One proof body at a time: each thread reserves memory, and the whole text as one file comes close to the limit of the check.
set_option Elab.async false

/-! ### The resets -/

/-- Settles O5: after a power-on the pins alone differ from the state after reset. -/
theorem releaseStartsThePart : Obligations.ReleaseStartsThePart :=
  ⟨fun _ _ hheld => congrArg Host.Outcome.next (if_pos hheld), _, rfl, rfl⟩

/-- Settles O7: the completion is counted in a register that RESTART ALL clears with the others. -/
theorem restartAllEffect : Obligations.RestartAllEffect := by
  intro s straps k hheld hin hmark hreply
  refine ⟨_, rfl, ?_⟩
  have hin' : s.unflagged.cal.inTx = some (.control k) := hin
  refine congrArg Host.Outcome.next ((live_running hheld).trans (oneEvent_silent ?_ rfl))
  simp only [State.completeSlot, hin', TxCell.mark, hmark, State.finishTx_reply hreply]
  rfl

/-! ### Events without an occasion -/

/-- An event that does nothing on the state as it finds it leaves the part as it is, held or running. -/
theorem live_unchanged {f : State → State} {s : State} (h : f s.unflagged = s.unflagged) :
    (.next (live f s) : Host.Outcome State Fault Refusal) = .next s := by
  cases hheld : s.resetHeld with
  | true => rw [live_held hheld]
  | false => rw [live_running hheld, oneEvent_silent h rfl]

/-- R105, R109, R121, R122: the held part takes nothing but the reset pin's own events. -/
theorem exec_held {s : State} (h : s.resetHeld = true) {c : Instr} (hpower : c ≠ .powerOn)
    (hrelease : ∀ straps, c ≠ .resetPinRelease straps) : exec c s = .next s := by
  cases c with
  | powerOn => exact absurd rfl hpower
  | resetPinRelease straps => exact absurd rfl (hrelease straps)
  | _ => exact congrArg Host.Outcome.next (if_pos h)

section
variable {s : State}

/-- R95, R99: no header is tested without a boundary, or before the arriving cell is handed on. -/
theorem State.testHeader_unchanged (h : s.rx.boundary = none ∨ s.rx.arriving ≠ none) (w : Word) : s.testHeader w = s := by
  unfold State.testHeader
  split
  · next hboundary harriving =>
    rcases h with h | h
    · cases hboundary.symm.trans h
    · exact absurd harriving h
  · rfl

theorem State.handOn_unchanged (h : s.rx.arriving = none) (p : Payload) : s.handOn p = s := by
  rw [State.handOn, h]

theorem State.takeSourceEvent_unchanged (h : s.handover.sources = []) (p : Origin → Bool) (m : Option (Fin 128)) :
    s.takeSourceEvent p m = s := by
  rw [State.takeSourceEvent, h]
  rfl

theorem State.takeSourceOperand_unchanged (h : s.handover.sources = []) (p : Origin → Bool) (m : Option Nat) :
    s.takeSourceOperand p m = s := by
  unfold State.takeSourceOperand
  split
  · exact State.takeSourceEvent_unchanged h p none
  · split
    · rfl
    · exact State.takeSourceEvent_unchanged h p _

theorem State.takeExpiry_unchanged (h : s.handover.sources = []) (n : Nat) : s.takeExpiry n = s := by
  unfold State.takeExpiry
  split
  · rfl
  · simp only [State.takeSourceEvent_unchanged h, ite_self]

theorem State.localArrival_unchanged (h : s.port.completed = []) : s.localArrival = s := by
  rw [State.localArrival, h]

theorem State.slotEvent_unchanged (h : s.cal.inTx ≠ none) : s.slotEvent = s := by
  obtain ⟨c, hc⟩ := Option.ne_none_iff_exists'.1 h
  rw [State.slotEvent, hc]

theorem State.completeSlot_unchanged (h : s.cal.inTx = none) (straps : BitVec 6) : s.completeSlot straps = s := by
  rw [State.completeSlot, h]

theorem State.setFlag_unchanged {f : EventFlag} (h : f ∉ s.handover.flags) : s.setFlag f = s := by
  rw [State.setFlag, takeFirst, if_neg h]

theorem State.sendingComplete_unchanged (h : s.handover.reportsSent = []) : s.sendingComplete = s := by
  rw [State.sendingComplete, h]

end

/-- Settles O3: each occasion is what the event's function asks for first. -/
theorem noOccasionNoEffect : Obligations.NoOccasionNoEffect := by
  intro s
  have sources (h : s.handover.sources = []) := State.takeSourceOperand_unchanged (s := s.unflagged) h
  refine ⟨fun hheld c => exec_held hheld, fun hrunning straps => congrArg Host.Outcome.next (if_neg (by simp [hrunning])),
    fun h w => live_unchanged (State.testHeader_unchanged (s := s.unflagged) h w),
    fun h p => live_unchanged (State.handOn_unchanged (s := s.unflagged) h p),
    fun h m n => ⟨live_unchanged (sources h _ m), live_unchanged (sources h _ m), live_unchanged (sources h _ m),
      live_unchanged (State.takeExpiry_unchanged (s := s.unflagged) h n)⟩,
    fun h => live_unchanged (State.localArrival_unchanged (s := s.unflagged) h),
    fun h => live_unchanged (State.slotEvent_unchanged (s := s.unflagged) h),
    fun h straps => live_unchanged (State.completeSlot_unchanged (s := s.unflagged) h straps),
    fun h => ⟨live_unchanged (if_pos h), live_unchanged (if_pos h)⟩,
    fun h => ⟨live_unchanged (if_pos h), live_unchanged (if_pos h)⟩,
    fun f h => ?_,
    fun h => live_unchanged (State.sendingComplete_unchanged (s := s.unflagged) h)⟩
  show Host.Outcome.next (if s.resetHeld then s else s.setFlag f) = _
  rw [State.setFlag_unchanged h, ite_self]

end Sys2Proof.Machine
end

section
/-! PROOF. The Ring Receiver: the windows tested in HUNT (R96) and the header test at a boundary (R97, R98). -/

namespace Sys2Proof.Machine

-- One proof body at a time: each thread reserves memory, and the whole text as one file comes close to the limit of the check.
set_option Elab.async false

/-! ### HUNT (R96) -/

/-- R96: a byte slides into a window of three bytes or more, whose last three stay. -/
theorem slideWindow_full (old : List Byte) (b0 b1 b2 b : Byte) : slideWindow (old ++ [b0, b1, b2]) b = [b0, b1, b2, b] := by
  unfold slideWindow
  rw [List.append_assoc]
  exact List.drop_left' (by simp)

/-- R96: a window of fewer than three bytes grows, and is not tested yet. -/
theorem slideWindow_short {w : List Byte} (h : w.length < 3) (b : Byte) : slideWindow w b = w ++ [b] := by
  rw [slideWindow, Nat.sub_eq_zero_of_le (by omega), List.drop_zero]

theorem goodWindow_short {w : List Byte} (h : w.length < 4) : goodWindow w = false := by
  unfold goodWindow
  split
  · exact absurd h (by simp)
  · rfl

/-- R96: a byte received in HUNT is one event that hands nothing over. -/
theorem exec_huntWindowTest {s : State} (hheld : s.resetHeld = false) (hstate : s.rx.state = .hunt) (b : Byte) :
    exec (.huntWindowTest b) s = .next { s with rx := s.rx.hunt b } := by
  show Host.Outcome.next (live (State.huntByte b) s) = _
  rw [live_running hheld]
  exact congrArg Host.Outcome.next (oneEvent_silent (if_pos hstate) rfl)

/-- Settles O8: by the length of the window before the byte. -/
theorem huntTestsEveryWindow : Obligations.HuntTestsEveryWindow := by
  intro s b hheld
  refine ⟨fun hstate => live_unchanged (if_neg hstate), fun hstate hshort => ?_,
    fun old b0 b1 b2 hstate hwindow => ⟨fun hgood => ?_, fun hbad => ?_⟩⟩
  all_goals rw [exec_huntWindowTest hheld hstate]
  · have hbad : goodWindow (s.rx.window ++ [b]) = false := goodWindow_short (by simpa using Nat.succ_lt_succ hshort)
    simp [Receiver.hunt, slideWindow_short hshort, hbad]
  · simp [Receiver.hunt, hwindow, slideWindow_full, goodWindow, hgood]
  · simp [Receiver.hunt, hwindow, slideWindow_full, goodWindow, hbad]

/-! ### The header test at the boundary (R97, R98) -/

section
variable {s t : State} {w : Word} {n : Nat}

/-- R97: the header test in PRESYNC. -/
theorem State.testHeader_presync (hboundary : s.rx.boundary = some n) (harriving : s.rx.arriving = none)
    (hstate : s.rx.state = .presync) :
    s.testHeader w = if goodHeader w then s.presyncGood n w else s.presyncBad n w := by
  simp only [State.testHeader, hboundary, harriving, hstate]

/-- R98: the header test in SYNC. -/
theorem State.testHeader_sync (hboundary : s.rx.boundary = some n) (harriving : s.rx.arriving = none) (hstate : s.rx.state = .sync) :
    s.testHeader w = if goodHeader w then s.syncGood n w else s.syncBad n w := by
  simp only [State.testHeader, hboundary, harriving, hstate]

/-- R97: the sixth good header in a row gains the framing. -/
theorem State.presyncGood_unflagged_sixth (h : s.rx.goodRun + 1 = 6) : s.unflagged.presyncGood n w =
    ({ s with rx := { s.rx with
      state := .sync, goodRun := 6, badRun := 0, boundary := some (n + 32), position := n
      window := headerBytes w } } : State).unflagged.handsOver [.syncGained] := by
  simp only [State.presyncGood, show s.unflagged.rx.goodRun + 1 = 6 from h, if_true]
  exact State.hand_eq_handsOver List.not_mem_nil

/-- R98: a bad header that is not the seventh in a row, as an event hands it over. -/
theorem State.syncBad_unflagged (h : s.rx.badRun + 1 < 7) : s.unflagged.syncBad n w =
    (({ s with rx := { s.rx with
      badRun := s.rx.badRun + 1, boundary := some (n + 32), position := n, window := headerBytes w } } : State).countDevice
        .headerErrors).unflagged.handsOver [.headerError] := by
  simp only [State.syncBad, State.unflagged_countDevice, State.hand_unflagged]
  exact if_neg (by exact h.ne)

/-- R98: the seventh bad header in a row loses the framing. -/
theorem State.syncBad_unflagged_seventh (h : s.rx.badRun + 1 = 7) : s.unflagged.syncBad n w =
    (((s.presyncBad n w).countDevice .headerErrors).countDevice .syncLosses).unflagged.handsOver [.headerError, .syncLost] := by
  have hlost := State.hand_handsOver (s := (s.presyncBad n w).countDevice .headerErrors) (fs := [.headerError]) (f := .syncLost)
    (by simp)
  simp only [State.syncBad, State.unflagged_countDevice, State.hand_unflagged]
  exact (if_pos h).trans (congrArg (State.countDevice · .syncLosses) hlost)

/-- R97, R98: a header test is one event that hands the flags `fs` over. -/
theorem exec_headerTest {fs : List EventFlag} (hheld : s.resetHeld = false)
    (h : s.unflagged.testHeader w = t.unflagged.handsOver fs) (ht : t.handover.flags = s.handover.flags) :
    exec (.headerTest w) s = .next (t.handsOver fs) := by
  show Host.Outcome.next (live (State.testHeader w) s) = _
  rw [live_running hheld, oneEvent_handsOver h ht]

/-- The same for a header test that hands nothing over. -/
theorem exec_headerTest_silent (hheld : s.resetHeld = false) (h : s.unflagged.testHeader w = t.unflagged)
    (ht : t.handover.flags = s.handover.flags) : exec (.headerTest w) s = .next t := by
  rw [exec_headerTest hheld (h.trans t.unflagged.handsOver_nil.symm) ht, State.handsOver_nil]

end

/-- Settles O9: by the state of the receiver, the header and the run before it. -/
theorem headerTestAtTheBoundary : Obligations.HeaderTestAtTheBoundary := by
  intro s w n hheld hboundary harriving bytes
  have presync (h : s.rx.state = .presync) := State.testHeader_presync (s := s.unflagged) (w := w) hboundary harriving h
  have sync (h : s.rx.state = .sync) := State.testHeader_sync (s := s.unflagged) (w := w) hboundary harriving h
  refine ⟨fun hstate hgood hrun => exec_headerTest_silent hheld ?_ rfl, fun hstate hgood hrun => exec_headerTest hheld ?_ rfl,
    fun hstate hbad => exec_headerTest_silent hheld ?_ rfl, fun hstate hgood => exec_headerTest_silent hheld ?_ rfl,
    fun hstate hbad hrun => exec_headerTest hheld ?_ rfl, fun hstate hbad hrun => exec_headerTest hheld ?_ rfl⟩
  · rw [presync hstate, if_pos hgood]
    exact if_neg hrun.ne
  · rw [presync hstate, if_pos hgood, State.presyncGood_unflagged_sixth hrun]
    rfl
  · rw [presync hstate, if_neg (by simp [hbad])]
    rfl
  · rw [sync hstate, if_pos hgood]
    rfl
  · rw [sync hstate, if_neg (by simp [hbad])]
    exact State.syncBad_unflagged hrun
  · rw [sync hstate, if_neg (by simp [hbad])]
    exact State.syncBad_unflagged_seventh hrun

end Sys2Proof.Machine
end

section
/-! PROOF. The routing of ring CONTROL cells (R102 to R104): what each of the two ways does as one event, and the ways a cell goes. -/

namespace Sys2Proof.Machine

-- One proof body at a time: each thread reserves memory, and the whole text as one file comes close to the limit of the check.
set_option Elab.async false

/-! ### Intake and transit, what they hand over set apart (R103, R104, R162) -/

section
variable (s : State) (k : ControlCell)

/-- R103: a cell with a good check that finds no place in intake. -/
def State.losesAtIntake : Bool := goodPayload k.payload && decide (4 ≤ s.engine.intake.length)

/-- R104: a cell with a hop left that finds no place in the control egress queue. -/
def State.losesAtEgress : Bool := !decide (k.header.hop = 0) && decide (8 ≤ s.engine.egress.length)

/-- R103: the cell joins intake. -/
def State.takenIn : State := { s with engine := { s.engine with intake := s.engine.intake ++ [k] } }

/-- R104: the cell joins the control egress queue, its hop one less. -/
def State.passedOn : State := s.joinEgress
  { cell := { k with header := { k.header with hop := k.header.hop - 1 } }, producer := .transit, mark := none }

/-- R103: the way to intake, but for what it hands over. -/
def State.afterIntake : State :=
  if !goodPayload k.payload then s.countDevice .controlCheckErrors
  else if s.losesAtIntake k then s.countDevice .controlIntakeLost else s.takenIn k

/-- R104: the way to transit, but for what it hands over. -/
def State.afterTransit : State :=
  if decide (k.header.hop = 0) then s.countDevice .hopExpired
  else if s.losesAtEgress k then s.countDevice .controlEgressLost else s.passedOn k

theorem State.toIntake_wrong (h : goodPayload k.payload = false) : s.toIntake k = s.countDevice .controlCheckErrors :=
  if_pos (by simp [h])

theorem State.toIntake_full (h : goodPayload k.payload = true) (hfull : 4 ≤ s.engine.intake.length) :
    s.toIntake k = (s.countDevice .controlIntakeLost).hand .controlLost :=
  (if_neg (by simp [h])).trans (if_pos hfull)

theorem State.toIntake_free (h : goodPayload k.payload = true) (hroom : s.engine.intake.length < 4) : s.toIntake k = s.takenIn k :=
  (if_neg (by simp [h])).trans (if_neg (Nat.not_le.2 hroom))

theorem State.toTransit_spent (h : k.header.hop = 0) : s.toTransit k = s.expireHop := if_pos h

theorem State.toTransit_full (h : k.header.hop ≠ 0) (hfull : 8 ≤ s.engine.egress.length) :
    s.toTransit k = (s.countDevice .controlEgressLost).hand .controlLost :=
  (if_neg h).trans (if_neg (by simpa [State.egressRoom] using hfull))

theorem State.toTransit_free (h : k.header.hop ≠ 0) (hroom : s.engine.egress.length < 8) : s.toTransit k = s.passedOn k :=
  (if_neg h).trans (if_pos (by simpa [State.egressRoom] using hroom))

/-- R103: the way to intake as the first of an event. -/
theorem State.toIntake_unflagged :
    s.unflagged.toIntake k = (s.afterIntake k).unflagged.handsOver (if s.losesAtIntake k then [.controlLost] else []) := by
  unfold State.afterIntake State.losesAtIntake
  cases hgood : goodPayload k.payload with
  | false => simp [State.toIntake_wrong _ _ hgood]
  | true =>
    by_cases hfull : 4 ≤ s.engine.intake.length
    · rw [State.toIntake_full s.unflagged k hgood hfull]
      simp [hfull]
    · rw [State.toIntake_free s.unflagged k hgood (Nat.not_le.1 hfull)]
      simp only [hfull, Bool.not_true, Bool.false_eq_true, if_false, decide_false, Bool.and_false, State.handsOver_nil]
      rfl

/-- R162: CONTROL_LOST is handed over once in an event that loses the cell on both ways. -/
theorem State.hand_controlLost (lost : Bool) :
    (s.unflagged.handsOver (if lost then [.controlLost] else [])).hand .controlLost = s.unflagged.handsOver [.controlLost] := by
  cases lost with
  | false => exact State.hand_handsOver List.not_mem_nil
  | true => exact if_pos (List.mem_singleton_self _)

/-- R104: the way to transit, alone or after a way to intake that has lost the cell or not. -/
theorem State.toTransit_unflagged (lost : Bool) :
    (s.unflagged.handsOver (if lost then [.controlLost] else [])).toTransit k
      = (s.afterTransit k).unflagged.handsOver
        ((if lost || s.losesAtEgress k then [.controlLost] else []) ++ if decide (k.header.hop = 0) then [.hopExpired] else []) := by
  unfold State.afterTransit State.losesAtEgress
  by_cases hhop : k.header.hop = 0
  · rw [State.toTransit_spent _ _ hhop, State.expireHop, State.handsOver_countDevice, State.unflagged_countDevice,
      State.hand_handsOver (by cases lost <;> simp)]
    simp [hhop]
  · by_cases hfull : 8 ≤ s.engine.egress.length
    · rw [State.toTransit_full _ k hhop (by exact hfull), State.handsOver_countDevice, State.unflagged_countDevice,
        State.hand_controlLost, decide_eq_false hhop, decide_eq_true hfull]
      simp
    · rw [State.toTransit_free _ k hhop (by exact Nat.not_le.1 hfull)]
      rw [decide_eq_false hhop, decide_eq_false hfull]
      simp only [Bool.not_false, Bool.and_false, Bool.or_false, Bool.false_eq_true, if_false, List.append_nil]
      rfl

/-- R103: the way to intake leaves the control egress queue. -/
theorem State.losesAtEgress_afterIntake : (s.afterIntake k).losesAtEgress k = s.losesAtEgress k := by
  unfold State.afterIntake
  split
  · rfl
  · split <;> rfl

/-! The outcomes of a way that is the only one -/

theorem State.afterIntake_wrong (h : goodPayload k.payload = false) :
    (s.afterIntake k).handsOver (if s.losesAtIntake k then [.controlLost] else []) = s.countDevice .controlCheckErrors := by
  simp [State.afterIntake, State.losesAtIntake, h]

theorem State.afterIntake_full (h : goodPayload k.payload = true) (hfull : 4 ≤ s.engine.intake.length) :
    (s.afterIntake k).handsOver (if s.losesAtIntake k then [.controlLost] else [])
      = (s.countDevice .controlIntakeLost).handsOver [.controlLost] := by
  simp [State.afterIntake, State.losesAtIntake, h, hfull]

theorem State.afterIntake_free (h : goodPayload k.payload = true) (hroom : s.engine.intake.length < 4) :
    (s.afterIntake k).handsOver (if s.losesAtIntake k then [.controlLost] else []) = s.takenIn k := by
  simp [State.afterIntake, State.losesAtIntake, h, Nat.not_le.2 hroom]

theorem State.afterTransit_spent (h : decide (k.header.hop = 0) = true) :
    (s.afterTransit k).handsOver ((if s.losesAtEgress k then [.controlLost] else [])
      ++ if decide (k.header.hop = 0) then [.hopExpired] else []) = (s.countDevice .hopExpired).handsOver [.hopExpired] := by
  simp only [State.afterTransit, State.losesAtEgress, h]
  simp

theorem State.afterTransit_full (h : decide (k.header.hop = 0) = false) (hfull : 8 ≤ s.engine.egress.length) :
    (s.afterTransit k).handsOver ((if s.losesAtEgress k then [.controlLost] else [])
      ++ if decide (k.header.hop = 0) then [.hopExpired] else [])
        = (s.countDevice .controlEgressLost).handsOver [.controlLost] := by
  simp only [State.afterTransit, State.losesAtEgress, h]
  simp [hfull]

theorem State.afterTransit_free (h : decide (k.header.hop = 0) = false) (hroom : s.engine.egress.length < 8) :
    (s.afterTransit k).handsOver ((if s.losesAtEgress k then [.controlLost] else [])
      ++ if decide (k.header.hop = 0) then [.hopExpired] else []) = s.passedOn k := by
  simp only [State.afterTransit, State.losesAtEgress, h]
  simp [Nat.not_le.2 hroom]

/-- What an event hands over, it adds to the flags on their way; neither way drops one of those. -/
theorem State.afterIntake_flags : (s.afterIntake k).handover.flags = s.handover.flags := by
  unfold State.afterIntake
  split
  · rfl
  · split <;> rfl

theorem State.afterTransit_flags : (s.afterTransit k).handover.flags = s.handover.flags := by
  unfold State.afterTransit
  split
  · rfl
  · split <;> rfl

end

/-! ### The ways of a cell (R102) -/

section
variable {s : State} {k : ControlCell}

theorem State.routeControl_here (hb : (Control.ofPayload k.payload).broadcastFlag = false)
    (hd : (Control.ofPayload k.payload).dest = s.nodeAddress.setWidth 8) :
    s.routeControl k = if (Control.ofPayload k.payload).replyFlag then s.countDevice .controlMisrouted else s.toIntake k := by
  simp only [State.routeControl, hb, hd, if_true]
  rfl

/-- R102: the cells that go to transit alone. -/
def State.GoesAway (s : State) (c : Control) : Prop :=
  (c.broadcastFlag = true ∧ (c.replyFlag = true ∨ c.op ≠ 0x01#8)) ∨ (c.broadcastFlag = false ∧ c.dest ≠ s.nodeAddress.setWidth 8)

theorem State.routeControl_away (h : s.GoesAway (Control.ofPayload k.payload)) : s.routeControl k = s.toTransit k := by
  rcases h with ⟨hb, h⟩ | ⟨hb, hd⟩
  · have hno : (!(Control.ofPayload k.payload).replyFlag && (Control.ofPayload k.payload).op == discoverCode) = false := by
      rcases h with hr | ho
      · simp [hr]
      · simp [discoverCode, ho]
    simp [State.routeControl, hb, hno]
  · simp [State.routeControl, hb, hd]

theorem State.routeControl_discover (hb : (Control.ofPayload k.payload).broadcastFlag = true)
    (hr : (Control.ofPayload k.payload).replyFlag = false) (ho : (Control.ofPayload k.payload).op = 0x01#8) :
    s.routeControl k = (s.toIntake k).toTransit k := by
  simp [State.routeControl, hb, hr, ho, discoverCode]

end

section
variable {s : State} {w : Word} {k : ControlCell} (hheld : s.resetHeld = false) (hw : s.rx.arriving = some w)
  (hheader : Header.ofWord w = k.header) (hkind : k.header.kind = .control)
include hheld hw hheader hkind

/-- R100, R102: the arrival of a CONTROL cell is one event, its routing. -/
theorem exec_controlArrival {t : State} {fs : List EventFlag}
    (h : (s.handedOn k.payload).unflagged.routeControl k = t.unflagged.handsOver fs) (ht : t.handover.flags = s.handover.flags) :
    exec (.ringCellArrival k.payload) s = .next (t.handsOver fs) := by
  rw [exec_ringCellArrival k.payload hheld hw]
  refine congrArg Host.Outcome.next (oneEvent_handsOver (Eq.trans ?_ h) ht)
  simp only [State.sortCell, hheader, hkind]
  rfl

/-- R102: a reply is not taken in at the node it is addressed to. -/
theorem exec_controlArrival_misrouted (hb : (Control.ofPayload k.payload).broadcastFlag = false)
    (hd : (Control.ofPayload k.payload).dest = s.nodeAddress.setWidth 8) (hr : (Control.ofPayload k.payload).replyFlag = true) :
    exec (.ringCellArrival k.payload) s = .next ((s.handedOn k.payload).countDevice .controlMisrouted) := by
  rw [← State.handsOver_nil (State.countDevice _ _)]
  refine exec_controlArrival hheld hw hheader hkind ?_ rfl
  rw [State.routeControl_here (s := (s.handedOn k.payload).unflagged) hb hd, if_pos hr, State.handsOver_nil, State.unflagged_countDevice]

/-- R102, R103: a command for this node goes to intake. -/
theorem exec_controlArrival_here (hb : (Control.ofPayload k.payload).broadcastFlag = false)
    (hd : (Control.ofPayload k.payload).dest = s.nodeAddress.setWidth 8) (hr : (Control.ofPayload k.payload).replyFlag = false) :
    exec (.ringCellArrival k.payload) s = .next (((s.handedOn k.payload).afterIntake k).handsOver
      (if (s.handedOn k.payload).losesAtIntake k then [.controlLost] else [])) := by
  refine exec_controlArrival hheld hw hheader hkind ?_ (State.afterIntake_flags _ _)
  rw [State.routeControl_here (s := (s.handedOn k.payload).unflagged) hb hd, if_neg (ne_true_of_eq_false hr), State.toIntake_unflagged]

/-- R102, R104: a cell for another node, or a broadcast other than DISCOVER, goes to transit. -/
theorem exec_controlArrival_away (h : s.GoesAway (Control.ofPayload k.payload)) :
    exec (.ringCellArrival k.payload) s = .next (((s.handedOn k.payload).afterTransit k).handsOver
      ((if (s.handedOn k.payload).losesAtEgress k then [.controlLost] else [])
        ++ if decide (k.header.hop = 0) then [.hopExpired] else [])) := by
  refine exec_controlArrival hheld hw hheader hkind ?_ (State.afterTransit_flags _ _)
  rw [State.routeControl_away (s := (s.handedOn k.payload).unflagged) h]
  simpa using State.toTransit_unflagged (s.handedOn k.payload) k false

/-- R102: a broadcast DISCOVER goes both ways, to intake first. -/
theorem exec_controlArrival_discover (hb : (Control.ofPayload k.payload).broadcastFlag = true)
    (hr : (Control.ofPayload k.payload).replyFlag = false) (ho : (Control.ofPayload k.payload).op = 0x01#8) :
    exec (.ringCellArrival k.payload) s = .next ((((s.handedOn k.payload).afterIntake k).afterTransit k).handsOver
      ((if (s.handedOn k.payload).losesAtIntake k || (s.handedOn k.payload).losesAtEgress k then [.controlLost] else [])
        ++ if decide (k.header.hop = 0) then [.hopExpired] else [])) := by
  refine exec_controlArrival hheld hw hheader hkind ?_ ((State.afterTransit_flags _ _).trans (State.afterIntake_flags _ _))
  rw [State.routeControl_discover (s := (s.handedOn k.payload).unflagged) hb hr ho, State.toIntake_unflagged,
    State.toTransit_unflagged, State.losesAtEgress_afterIntake]

end

/-- Settles O10: each combination is read off the two ways. -/
theorem controlCellRouting : Obligations.ControlCellRouting := by
  intro s w p hheld hw hkind h c r here away taken passed
  let k : ControlCell := { header := h, payload := p }
  have misrouted := exec_controlArrival_misrouted (k := k) hheld hw rfl hkind
  have intake (hh : here) (hr : c.replyFlag = false) := exec_controlArrival_here (k := k) hheld hw rfl hkind hh.1 hh.2 hr
  have transit (ha : away) := exec_controlArrival_away (k := k) hheld hw rfl hkind ha
  refine ⟨fun hh hr => misrouted hh.1 hh.2 hr,
    fun hh hr hbad => (intake hh hr).trans (congrArg Host.Outcome.next (State.afterIntake_wrong r k hbad)),
    fun hh hr hgood hfull => (intake hh hr).trans (congrArg Host.Outcome.next (State.afterIntake_full r k hgood hfull)),
    fun hh hr hgood hroom => (intake hh hr).trans (congrArg Host.Outcome.next (State.afterIntake_free r k hgood hroom)),
    fun ha hhop => (transit ha).trans (congrArg Host.Outcome.next (State.afterTransit_spent r k (decide_eq_true hhop))),
    fun ha hhop hroom => (transit ha).trans (congrArg Host.Outcome.next (State.afterTransit_free r k (decide_eq_false hhop) hroom)),
    fun ha hhop hfull => (transit ha).trans (congrArg Host.Outcome.next (State.afterTransit_full r k (decide_eq_false hhop) hfull)),
    fun hb hr ho => ?_⟩
  have both := exec_controlArrival_discover (k := k) hheld hw rfl hkind hb hr ho
  rw [State.afterTransit, State.losesAtEgress_afterIntake] at both
  exact both

end Sys2Proof.Machine
end

section
/-! PROOF. The layouts: the fields of a header and of a control payload (R178, R179), the words of a cell at the local port (R111), and
the header check as a linear code (R94). -/

namespace Sys2Proof

-- One proof body at a time: each thread reserves memory, and the whole text as one file comes close to the limit of the check.
set_option Elab.async false

/-! ### Fields and checks -/

theorem ofBool_getLsbD {n : Nat} (x : BitVec n) (i : Nat) : BitVec.ofBool (x.getLsbD i) = x.extractLsb' i 1 := by
  ext j hj
  obtain rfl : j = 0 := by omega
  simp

theorem getLsbD_ofBool_zero (b : Bool) : (BitVec.ofBool b).getLsbD 0 = b := by cases b <;> rfl

/-- A word is the part that a check is computed over, and the check below it. -/
theorem extract_append_check {m n : Nat} (x : BitVec (m + n)) : x.extractLsb' n m ++ x.setWidth n = x := by
  rw [BitVec.setWidth_eq_extractLsb' (Nat.le_add_left n m),
    BitVec.extractLsb'_append_extractLsb'_eq_extractLsb' (Nat.zero_add n).symm, BitVec.extractLsb'_eq_self]

/-! ### The fields of a header (R178) -/

theorem Kind.ofCode_code (k : Kind) : Kind.ofCode k.code = k := by cases k <;> rfl

theorem Kind.code_ofCode (c : BitVec 3) : (Kind.ofCode c).code = c := by
  revert c
  decide

/-- R178: the fields of a header stand in its first three bytes. -/
theorem Header.ofWord_append (h : Header) (check : Byte) : Header.ofWord (h.bits ++ check) = h := by
  obtain ⟨kind, label, hop, de, tag⟩ := h
  simp only [Header.ofWord, Header.bits, BitVec.getLsbD_append]
  simp (disch := decide) only [BitVec.extractLsb'_append_eq_of_le, BitVec.extractLsb'_append_eq_of_add_le, BitVec.extractLsb'_eq_self,
    Nat.reduceSub, Nat.reduceLT, if_false, if_true, getLsbD_ofBool_zero, Kind.ofCode_code]

/-- R178: a header's first three bytes are made of its fields. -/
theorem Header.bits_ofWord (w : Word) : (Header.ofWord w).bits = w.extractLsb' 8 24 := by
  simp only [Header.ofWord, Header.bits, Kind.code_ofCode, ofBool_getLsbD, -Nat.reduceAdd]
  repeat rw [BitVec.extractLsb'_append_extractLsb'_eq_extractLsb' (by rfl)]

theorem goodHeader_append (x : BitVec 24) : goodHeader (x ++ headerCheck x) = true := by
  have hhigh : (x ++ headerCheck x).extractLsb' 8 24 = x := BitVec.extractLsb'_append_eq_left
  rw [goodHeader, BitVec.setWidth_append_eq_right, hhigh, beq_self_eq_true]

theorem check_of_goodHeader {w : Word} (h : goodHeader w = true) : w.setWidth 8 = headerCheck (w.extractLsb' 8 24) := eq_of_beq h

/-- R94: a good header is made of its fields. -/
theorem Header.toWord_ofWord {w : Word} (h : goodHeader w = true) : (Header.ofWord w).toWord = w := by
  rw [Header.toWord, Header.bits_ofWord, ← check_of_goodHeader h]
  exact extract_append_check (m := 24) (n := 8) w

/-! ### The fields of a control payload (R179) -/

theorem Control.ofPayload_append (c : Control) (check : BitVec 16) : Control.ofPayload (c.body ++ check) = c := by
  obtain ⟨dest, src, seq, op, flags, status, arg, count, index, data⟩ := c
  simp only [Control.ofPayload, Control.body]
  simp (disch := decide) only [BitVec.extractLsb'_append_eq_of_le, BitVec.extractLsb'_append_eq_of_add_le, BitVec.extractLsb'_eq_self,
    Nat.reduceSub]

theorem Control.body_ofPayload (p : Payload) : (Control.ofPayload p).body = p.extractLsb' 16 208 := by
  simp only [Control.ofPayload, Control.body, -Nat.reduceAdd]
  repeat rw [BitVec.extractLsb'_append_extractLsb'_eq_extractLsb' (by rfl)]

theorem goodPayload_toPayload (c : Control) : goodPayload c.toPayload = true := by
  have hhigh : (c.body ++ payloadCheck c.body).extractLsb' 16 208 = c.body := BitVec.extractLsb'_append_eq_left
  rw [goodPayload, Control.toPayload, BitVec.setWidth_append_eq_right, hhigh, beq_self_eq_true]

theorem check_of_goodPayload {p : Payload} (h : goodPayload p = true) : p.setWidth 16 = payloadCheck (p.extractLsb' 16 208) :=
  eq_of_beq h

/-- R103: a payload with a good CHECK is made of its fields. -/
theorem Control.toPayload_ofPayload {p : Payload} (h : goodPayload p = true) : (Control.ofPayload p).toPayload = p := by
  rw [Control.toPayload, Control.body_ofPayload, ← check_of_goodPayload h]
  exact extract_append_check (m := 208) (n := 16) p

/-! ### The words of a cell at the local port (R111) -/

/-- The word just shifted in stands lowest. -/
theorem extractLsb'_shiftWord_low (p : Payload) (w : Word) : ((p <<< 32) ||| w.setWidth 224).extractLsb' 0 32 = w := by
  ext j hj
  simp [hj, show j < 224 by omega]

/-- A word shifted in moves the others up by one place. -/
theorem extractLsb'_shiftWord_high (p : Payload) (w : Word) {m : Nat} (h : m < 6) :
    ((p <<< 32) ||| w.setWidth 224).extractLsb' ((m + 1) * 32) 32 = p.extractLsb' (m * 32) 32 := by
  apply BitVec.eq_of_getLsbD_eq
  intro j hj
  have hin : (m + 1) * 32 + j < 224 := by omega
  have hsub : (m + 1) * 32 + j - 32 = m * 32 + j := by omega
  have hup : ¬ (m + 1) * 32 + j < 32 := by omega
  have hw : w.getLsbD ((m + 1) * 32 + j) = false := BitVec.getLsbD_of_ge w _ (by omega)
  simp only [BitVec.getLsbD_extractLsb', BitVec.getLsbD_or, BitVec.getLsbD_shiftLeft, BitVec.getLsbD_setWidth, hin, hsub, hup, hw]
  simp

/-- R111: of up to seven words, each stands below those before it. -/
theorem payloadOfWords_extract (ws : List Word) (h : ws.length ≤ 7) (k : Nat) (hk : k < ws.length) :
    (payloadOfWords ws).extractLsb' ((ws.length - 1 - k) * 32) 32 = ws[k] := by
  unfold payloadOfWords
  induction ws using List.reverseRecOn with
  | nil => exact absurd hk (Nat.not_lt_zero k)
  | append_singleton ws w ih =>
    simp only [List.length_append, List.length_singleton] at h hk
    rw [List.foldl_append, List.foldl_cons, List.foldl_nil]
    by_cases hlast : k = ws.length
    · subst hlast
      simpa using extractLsb'_shiftWord_low _ w
    · have hk' : k < ws.length := by omega
      have hplace : (ws ++ [w]).length - 1 - k = (ws.length - 1 - k) + 1 := by
        simp only [List.length_append, List.length_singleton]
        omega
      rw [hplace, extractLsb'_shiftWord_high _ _ (by omega), ih (by omega) hk', List.getElem_append_left hk']

/-- R111: the seven words of a payload tell it. -/
theorem payload_ext {p q : Payload} (h : ∀ m < 7, p.extractLsb' (m * 32) 32 = q.extractLsb' (m * 32) 32) : p = q := by
  apply BitVec.eq_of_getLsbD_eq
  intro j hj
  have hword := congrArg (BitVec.getLsbD · (j % 32)) (h (j / 32) (by omega))
  have hplace : j / 32 * 32 + j % 32 = j := by omega
  simpa [BitVec.getLsbD_extractLsb', hplace, Nat.mod_lt] using hword

/-- R111: a cell made of eight words has those words. -/
theorem RawCell.words_ofWords (w : Word) {ws : List Word} (h : ws.length = 7) :
    (List.range 8).map (RawCell.ofWords (w :: ws)).word = w :: ws := by
  refine List.ext_getElem (by simp [h]) fun k hk hk' => ?_
  rw [List.getElem_map, List.getElem_range]
  cases k with
  | zero => rfl
  | succ k =>
    rw [List.length_cons] at hk'
    have hplace : 7 - (k + 1) = ws.length - 1 - k := by omega
    show (payloadOfWords ws).extractLsb' ((7 - (k + 1)) * 32) 32 = ws[k]
    rw [hplace, payloadOfWords_extract ws h.le k (by omega)]

/-- R111: a cell is made of its eight words. -/
theorem RawCell.ofWords_words (c : RawCell) : RawCell.ofWords ((List.range 8).map c.word) = c := by
  have hwords : (List.range 8).map c.word = c.header :: (List.range 7).map fun k => c.payload.extractLsb' ((6 - k) * 32) 32 := rfl
  rw [hwords, RawCell.mk.injEq]
  refine ⟨rfl, payload_ext fun m hm => ?_⟩
  have hword := payloadOfWords_extract ((List.range 7).map fun k => c.payload.extractLsb' ((6 - k) * 32) 32) (by simp) (6 - m)
    (by simp; omega)
  have hplace : 6 - (6 - m) = m := by omega
  simp only [List.length_map, List.length_range, List.getElem_map, List.getElem_range, hplace, Nat.add_one_sub_one] at hword
  exact hword

/-! ### The header check as a linear code (R94) -/

theorem byte_xor_right_comm (x y z : Byte) : x ^^^ y ^^^ z = x ^^^ z ^^^ y := by
  rw [BitVec.xor_assoc, BitVec.xor_comm y, BitVec.xor_assoc]

theorem byte_xor_xor_cancel (x y z : Byte) : (x ^^^ z) ^^^ (y ^^^ z) = x ^^^ y := by
  rw [BitVec.xor_comm y z, BitVec.xor_assoc, ← BitVec.xor_assoc z, BitVec.xor_self, BitVec.zero_xor]

theorem bne_xor_xor : ∀ m m' b b' : Bool, ((m ^^ m') != (b ^^ b')) = ((m != b) ^^ (m' != b')) := by decide

/-- A step of the division takes a sum of remainders and bits to the sum of what it takes each to. -/
theorem crc8Step_xor (r r' : Byte) (b b' : Bool) : crc8Step (r ^^^ r') (b ^^ b') = crc8Step r b ^^^ crc8Step r' b' := by
  rw [crc8Step, crc8Step, crc8Step, BitVec.msb_xor, bne_xor_xor, BitVec.shiftLeft_xor_distrib]
  cases r.msb != b with
  | false =>
    cases r'.msb != b' with
    | false => rfl
    | true => exact BitVec.xor_assoc _ _ _
  | true =>
    cases r'.msb != b' with
    | false => exact byte_xor_right_comm _ _ _
    | true => exact (byte_xor_xor_cancel _ _ _).symm

theorem crc8Bits_xor {n : Nat} (x y : BitVec n) (k : Nat) (r r' : Byte) :
    crc8Bits (x ^^^ y) k (r ^^^ r') = crc8Bits x k r ^^^ crc8Bits y k r' := by
  induction k generalizing r r' with
  | zero => rfl
  | succ k ih => rw [crc8Bits, BitVec.getLsbD_xor, crc8Step_xor, ih, crc8Bits, crc8Bits]

/-- The check over the bits in error: what a wrong header's check differs by. -/
def headerSyndrome (x : BitVec 24) : Byte := crc8Bits x 24 0#8

theorem headerCheck_xor (x y : BitVec 24) : headerCheck (x ^^^ y) = headerCheck x ^^^ headerSyndrome y := by
  have hzero : (0#8 : Byte) = 0#8 ^^^ 0#8 := rfl
  rw [headerCheck, hzero, crc8Bits_xor, headerCheck, headerSyndrome, byte_xor_right_comm]

/-- R94: a good header with the bits of `e` wrong is good exactly where the wrong check bits are the syndrome of the others. -/
theorem goodHeader_xor {w : Word} (h : goodHeader w = true) (e : Word) :
    goodHeader (w ^^^ e) = (e.setWidth 8 == headerSyndrome (e.extractLsb' 8 24)) := by
  rw [goodHeader, BitVec.setWidth_xor, BitVec.extractLsb'_xor, headerCheck_xor, check_of_goodHeader h,
    Bool.eq_iff_iff, beq_iff_eq, beq_iff_eq]
  exact BitVec.xor_right_inj _

/-- R98: no single wrong bit has the syndrome that would hide it. -/
theorem syndrome_single : ∀ k < 32, ((1#32 <<< k).setWidth 8 == headerSyndrome ((1#32 <<< k).extractLsb' 8 24)) = false := by
  decide +kernel

/-- Settles O53: headers and payloads are read as the bytes they were made of, and the check's division is linear. -/
theorem layoutsReadBack : Obligations.LayoutsReadBack := by
  refine ⟨fun h => ⟨Header.ofWord_append h _, goodHeader_append h.bits⟩,
    fun c => ⟨Control.ofPayload_append c _, goodPayload_toPayload c⟩, fun w => Header.toWord_ofWord,
    fun p => Control.toPayload_ofPayload, RawCell.ofWords_words, fun w0 w1 w2 w3 w4 w5 w6 w7 => RawCell.words_ofWords w0 rfl,
    fun p => ⟨Control.ofPayload_append _ _, goodPayload_toPayload _⟩, fun w k hk hgood => ?_⟩
  rw [goodHeader_xor hgood, syndrome_single k hk]

end Sys2Proof
end

section
/-! PROOF. The Local Port at a rising edge of LCLK (R183): the words strobed at the add side (R111 to R115) and those taken at the drop
side (R64, R119). -/

namespace Sys2Proof.Machine

-- One proof body at a time: each thread reserves memory, and the whole text as one file comes close to the limit of the check.
set_option Elab.async false

/-! ### An event at an edge of LCLK (R183) -/

section
variable {f : State → State} {s t : State}

/-- R183: an event at an edge of LCLK that comes to `t` and hands the flags `fs` over: the pins follow `t`, whatever is handed over. -/
theorem live_edge_handsOver {fs : List EventFlag} (hheld : s.resetHeld = false) (h : f s.unflagged = t.unflagged.handsOver fs)
    (ht : t.handover.flags = s.handover.flags) : live (fun z => (f z).portEdge) s = (t.handsOver fs).portEdge := by
  rw [live_running hheld]
  exact oneEvent_handsOver (t := t.portEdge) (congrArg State.portEdge h) ht

/-- The same for an event that hands nothing over. -/
theorem live_edge_silent (hheld : s.resetHeld = false) (h : f s.unflagged = t.unflagged)
    (ht : t.handover.flags = s.handover.flags) : live (fun z => (f z).portEdge) s = t.portEdge := by
  rw [live_edge_handsOver hheld (h.trans t.unflagged.handsOver_nil.symm) ht, State.handsOver_nil]

end

/-! ### A word with ADD_FIRST high (R113) -/

section
variable {s : State} {w : Word}

theorem State.cutOpen_of_none (h : s.port.openCell = .none) : s.cutOpen = s := by
  rw [State.cutOpen, h]

/-- R113, step 1: whatever the open cell has received, it is discarded. -/
theorem State.cutOpen_of_open (h : s.port.openCell ≠ .none) : s.cutOpen = (s.setOpen .none).refuseAdd := by
  unfold State.cutOpen
  split
  · next hnone => exact absurd hnone h
  · rfl
  · rfl

/-- R112, R113: once the open cell is cut, the completed cells alone are in staging. -/
theorem State.cutOpen_slotsInUse (s : State) : s.cutOpen.port.slotsInUse = s.port.completed.length := by
  by_cases h : s.port.openCell = .none
  · simp [State.cutOpen_of_none h, LocalPort.slotsInUse, h, OpenCell.isPlaced]
  · simp [State.cutOpen_of_open h, State.setOpen, LocalPort.slotsInUse, OpenCell.isPlaced]

theorem State.addFirst_of_room (h : s.port.completed.length < 4) : s.addFirst w = s.cutOpen.setOpen (.placed [w]) :=
  if_pos (by rw [State.cutOpen_slotsInUse]; exact h)

theorem State.addFirst_of_full (h : 4 ≤ s.port.completed.length) : s.addFirst w = s.cutOpen.setOpen (.broken 1) :=
  if_neg (by rw [State.cutOpen_slotsInUse]; exact Nat.not_lt.2 h)

/-- R113, step 1, as an event hands it over: the cell cut is refused, whatever cell is opened after it. -/
theorem State.refuseAdd_unflagged_setOpen (s : State) (x y : OpenCell) :
    ((s.unflagged.setOpen x).refuseAdd).setOpen y = ((s.setOpen y).countDevice .addRefused).unflagged.handsOver [.addRefused] :=
  congrArg (State.setOpen · y) (s.setOpen x).refuseAdd_unflagged

/-- R113: a word with ADD_FIRST high opens the cell `x`; no cell was open. -/
theorem exec_addWordFirst_closed {x : OpenCell} (hheld : s.resetHeld = false) (hopen : s.port.openCell = .none)
    (h : s.unflagged.addFirst w = s.unflagged.cutOpen.setOpen x) : exec (.addWordFirst w) s = .next (s.setOpen x).portEdge := by
  refine congrArg Host.Outcome.next (live_edge_silent hheld (h.trans ?_) rfl)
  rw [State.cutOpen_of_none (s := s.unflagged) hopen]
  rfl

/-- R113: a word with ADD_FIRST high opens the cell `x`; the open cell is cut and counted once. -/
theorem exec_addWordFirst_cut {x : OpenCell} (hheld : s.resetHeld = false) (hopen : s.port.openCell ≠ .none)
    (h : s.unflagged.addFirst w = s.unflagged.cutOpen.setOpen x) :
    exec (.addWordFirst w) s = .next (((s.setOpen x).countDevice .addRefused).handsOver [.addRefused]).portEdge := by
  refine congrArg Host.Outcome.next (live_edge_handsOver hheld (h.trans ?_) rfl)
  rw [State.cutOpen_of_open (s := s.unflagged) hopen, State.refuseAdd_unflagged_setOpen]

end

/-! ### A word with ADD_FIRST low (R114, R115) -/

section
variable {s : State} {w : Word} {ws : List Word} {n : Nat}

theorem State.addContinue_stray (h : s.port.openCell = .none) : s.addContinue w = s.refuseAdd := by
  rw [State.addContinue, h]

theorem State.addContinue_placed (h : s.port.openCell = .placed ws) (hlen : ws.length < 7) :
    s.addContinue w = s.setOpen (.placed (ws ++ [w])) := by
  simp only [State.addContinue, h, if_pos hlen]

/-- R115: the eighth word completes a placed cell. -/
theorem State.addContinue_completes (h : s.port.openCell = .placed ws) (hlen : ws.length = 7) :
    s.addContinue w = { s with port := { s.port with
      openCell := .none, completed := s.port.completed ++ [RawCell.ofWords (ws ++ [w])] } } := by
  simp only [State.addContinue, h, if_neg hlen.not_lt]
  rfl

theorem State.addContinue_broken (h : s.port.openCell = .broken n) (hn : n < 7) :
    s.addContinue w = s.setOpen (.broken (n + 1)) := by
  simp only [State.addContinue, h, if_pos hn]

/-- R115: the eighth word of a broken cell refuses it. -/
theorem State.addContinue_refuses (h : s.port.openCell = .broken n) (hn : n = 7) :
    s.addContinue w = (s.setOpen .none).refuseAdd := by
  simp only [State.addContinue, h, if_neg hn.not_lt]

end

/-- Settles O18: by the strobe, the open cell, and the room in staging or the words received. -/
theorem addSideWords : Obligations.AddSideWords := by
  intro s w hheld opened refused
  have room (h : s.port.completed.length < 4) := State.addFirst_of_room (s := s.unflagged) (w := w) h
  have full (h : 4 ≤ s.port.completed.length) := State.addFirst_of_full (s := s.unflagged) (w := w) h
  have silent {t : State} (h : s.unflagged.addContinue w = t.unflagged) (ht : t.handover.flags = s.handover.flags) :
      exec (.addWordContinue w) s = .next t.portEdge := congrArg Host.Outcome.next (live_edge_silent hheld h ht)
  have refusing {t : State} (h : s.unflagged.addContinue w = t.unflagged.refuseAdd) (ht : t.handover.flags = s.handover.flags) :
      exec (.addWordContinue w) s = .next (refused t).portEdge :=
    congrArg Host.Outcome.next
      (live_edge_handsOver (t := t.countDevice .addRefused) hheld (h.trans t.refuseAdd_unflagged) ht)
  exact ⟨fun hopen h => exec_addWordFirst_closed hheld hopen (room h),
    fun hopen h => exec_addWordFirst_closed hheld hopen (full h),
    fun ws hopen h => exec_addWordFirst_cut hheld (by simp [hopen]) (room h),
    fun n hopen h => exec_addWordFirst_cut hheld (by simp [hopen]) (room h),
    fun n hopen h => exec_addWordFirst_cut hheld (by simp [hopen]) (full h),
    fun hopen => refusing (State.addContinue_stray (s := s.unflagged) hopen) rfl,
    fun ws hopen h => silent (State.addContinue_placed (s := s.unflagged) hopen h) rfl,
    fun ws hopen h => silent (State.addContinue_completes (s := s.unflagged) hopen h) rfl,
    fun n hopen h => silent (State.addContinue_broken (s := s.unflagged) hopen h) rfl,
    fun n hopen h => refusing (t := opened .none) (State.addContinue_refuses (s := s.unflagged) hopen h) rfl⟩

/-! ### The drop side (R64, R119) -/

section
variable {s : State} {c : RawCell} {rest : List RawCell}

theorem State.takeDrop_empty (h : s.pool.drop = []) : s.takeDrop = s := by
  rw [State.takeDrop, h]

/-- R119: the next of the head's first seven words. -/
theorem State.takeDrop_within (h : s.pool.drop = c :: rest) (hk : s.port.deliveryPosition < 7) :
    s.takeDrop = { s with port := { s.port with
      presented := c.word s.port.deliveryPosition
      dropFirst := decide (s.port.deliveryPosition = 0)
      deliveryPosition := s.port.deliveryPosition + 1 } } := by
  simp only [State.takeDrop, h, if_pos hk]

/-- R64, R119: the eighth word, with which the head and its buffer are let go. -/
theorem State.takeDrop_last (h : s.pool.drop = c :: rest) (hk : s.port.deliveryPosition = 7) :
    s.takeDrop = { s with
      port := { s.port with presented := c.word 7, dropFirst := false, deliveryPosition := 0 }
      pool := { s.pool with free := s.pool.free + 1, drop := rest } } := by
  simp only [State.takeDrop, h, hk, Nat.lt_irrefl, if_false]
  rfl

end

/-- Settles O20: by the drop queue and the delivery position. -/
theorem dropTakePresentsWords : Obligations.DropTakePresentsWords := by
  intro s hheld
  have take {t : State} (h : s.unflagged.takeDrop = t.unflagged) (ht : t.handover.flags = s.handover.flags) :
      exec .dropTake s = .next t.portEdge := congrArg Host.Outcome.next (live_edge_silent hheld h ht)
  exact ⟨fun hempty => take (State.takeDrop_empty (s := s.unflagged) hempty) rfl,
    fun c rest hdrop => ⟨fun hk => take (State.takeDrop_within (s := s.unflagged) hdrop hk) rfl,
      fun hk => take (State.takeDrop_last (s := s.unflagged) hdrop hk) rfl⟩⟩

end Sys2Proof.Machine
end

section
/-! PROOF. When an execution is taken, its refusals before the command's own checks, and its reply (R124, R126, R128 to R132, R139). -/

namespace Sys2Proof.Machine

-- One proof body at a time: each thread reserves memory, and the whole text as one file comes close to the limit of the check.
set_option Elab.async false

/-! ### Taking an execution (R126) -/

section
variable {s t : State} {c : Control} {rest : List ControlCell} {op : Option Op} {body : Control → State → State}

theorem State.Takes.unflagged (h : s.Takes c rest) : s.unflagged.Takes c rest := ⟨h.released, h.ready, h.room, h.head⟩

/-- R126: when no execution can be taken. -/
theorem State.executable_eq_none :
    s.executable = none ↔ s.engine.intake = [] ∨ s.engine.restartPending = true ∨ 8 ≤ s.engine.egress.length := by
  unfold State.executable State.egressRoom
  cases s.engine.intake with
  | nil => simp
  | cons k rest => cases s.engine.restartPending <;> simp

theorem execution_not_taken (h : s.executable = none) : execution op body s = s := by simp only [execution, h]

/-- The command at the head of intake is not the row's. -/
theorem execution_other (h : s.Takes c rest) (hop : Op.ofCode c.op ≠ op) : execution op body s = s := by
  obtain ⟨k, hk, rfl⟩ := h.head
  have hexec := State.executable_eq_some.2 ⟨hk, h.ready, h.room⟩
  simp only [execution, hexec, if_neg hop]

/-- An execution whose steps after step 1 of R128 come to `t` and hand the flags `fs` over. -/
theorem live_execution_handsOver {fs : List EventFlag} (h : s.Takes c rest) (hop : Op.ofCode c.op = op) (hsrc : c.src.toNat ≤ 63)
    (hbody : body c (s.unflagged.beginExecution rest) = t.unflagged.handsOver fs) (ht : t.handover.flags = s.handover.flags) :
    live (execution op body) s = t.handsOver fs := by
  rw [live_running h.released]
  refine oneEvent_handsOver ?_ ht
  rw [execution_taken h.unflagged hop, if_neg (Nat.not_lt.2 hsrc), hbody]

/-- An execution whose steps after step 1 of R128 come to `t` and hand no flag over. -/
theorem live_execution_silent (h : s.Takes c rest) (hop : Op.ofCode c.op = op) (hsrc : c.src.toNat ≤ 63)
    (hbody : body c (s.unflagged.beginExecution rest) = t.unflagged) (ht : t.handover.flags = s.handover.flags) :
    live (execution op body) s = t := by
  rw [live_execution_handsOver h hop hsrc (hbody.trans t.unflagged.handsOver_nil.symm) ht, State.handsOver_nil]

/-- An execution is told by what its steps after step 1 of R128 come to. -/
theorem live_execution_congr {other : Control → State → State} (h : s.Takes c rest) (hop : Op.ofCode c.op = op)
    (hbody : body c (s.unflagged.beginExecution rest) = other c (s.unflagged.beginExecution rest)) :
    live (execution op body) s = live (execution op other) s := by
  rw [live_running h.released, live_running h.released]
  refine oneEvent_congr ?_
  rw [execution_taken h.unflagged hop, hbody, execution_taken h.unflagged hop]

/-- R128, step 1: the command of a node above 63. -/
theorem live_execution_badSender (h : s.Takes c rest) (hop : Op.ofCode c.op = op) (hsrc : 63 < c.src.toNat) :
    live (execution op body) s = s.answered rest (s.replyCell c { status := .badParam }) := by
  rw [live_running h.released]
  refine oneEvent_silent ?_ rfl
  rw [execution_taken h.unflagged hop, if_pos hsrc]
  rfl

end

/-! ### The intake commands as executions (R128, R139) -/

/-- R139: whether a row of intake needs the edit claim; BAD_OP does not. -/
def rowNeedsClaim (c : Control) : Option Op → Bool
  | none => false
  | some op => opNeedsClaim c op

/-- R128: every row but DISCOVER and OPEN makes the session steps, and asks for the claim where R139 says so. -/
theorem exec_intakeCommand_inSession {op : Option Op} (hdiscover : op ≠ some .discover) (hopen : op ≠ some .openSession) :
    ∃ claim own, (∀ c, claim c = rowNeedsClaim c op)
      ∧ ∀ s, exec (intakeCommand op) s = .next (live (execution op (inSession claim own)) s) := by
  cases op with
  | none => exact ⟨_, _, fun _ => rfl, fun _ => rfl⟩
  | some op =>
    cases op with
    | discover => exact absurd rfl hdiscover
    | openSession => exact absurd rfl hopen
    | _ => exact ⟨_, _, fun _ => rfl, fun _ => rfl⟩

/-- R126: every row of intake is an execution. -/
theorem exec_intakeCommand (op : Option Op) :
    ∃ body, ∀ s, exec (intakeCommand op) s = .next (live (execution op body) s) := by
  by_cases hdiscover : op = some .discover
  · exact ⟨bodyDiscover, fun s => by rw [hdiscover]; rfl⟩
  · by_cases hopen : op = some .openSession
    · exact ⟨bodyOpen, fun s => by rw [hopen]; rfl⟩
    · obtain ⟨claim, own, -, hexec⟩ := exec_intakeCommand_inSession hdiscover hopen
      exact ⟨_, hexec⟩

/-! ### Steps 4 and 5 of R128 -/

/-- R128: a node that manages no OPEN session has none. -/
theorem State.sessionOf_eq_none {s : State} {n : BitVec 6} (h : ∀ j, s.managerOf j ≠ some n) : s.sessionOf n = none := by
  refine Table.find?_eq_none.2 fun j => ?_
  have hj := h j
  unfold State.managerOf at hj
  split
  · next y hy => simpa [hy] using hj
  · rfl

section
variable {s : State} {c : Control} {rest : List ControlCell} {i : Fin 4} {x : Session} {claim : Control → Bool}
  {own : Control → Fin 4 → State → Done}

/-- Step 4. -/
theorem inSession_noSession (h : s.sessionOf (c.src.setWidth 6) = none) :
    inSession claim own c s = s.sendReply (s.replyCell c { status := .noSession }) := by
  simp only [inSession, h]

theorem State.restartIdle_get (h : s.sess.entries.get i = some x) :
    (s.restartIdle i).sess.entries.get i = some { x with idleTimer := 0 } := by
  rw [State.restartIdle_some h]
  exact Table.get_set_self _ _ _

/-- R124: a reply reads nothing of the sessions. -/
theorem State.restartIdle_replyCell (s : State) (i : Fin 4) (c : Control) (r : Reply) :
    (s.restartIdle i).replyCell c r = s.replyCell c r := by
  simp [State.replyCell]

/-- Step 5, R131: the last SEQ again. -/
theorem inSession_repeated (hs : s.sessionOf (c.src.setWidth 6) = some i) (he : s.sess.entries.get i = some x)
    (hnext : c.seq ≠ x.lastSeq + 1) (hlast : c.seq = x.lastSeq) :
    inSession claim own c s = (s.restartIdle i).resend x.cached := by
  simp only [inSession, hs, State.restartIdle_get he, Session.nextSeq, if_neg hnext, if_pos hlast]

/-- Step 5, R130: a SEQ out of sequence. -/
theorem inSession_outOfSequence (hs : s.sessionOf (c.src.setWidth 6) = some i) (he : s.sess.entries.get i = some x)
    (hnext : c.seq ≠ x.lastSeq + 1) (hlast : c.seq ≠ x.lastSeq) :
    inSession claim own c s = (s.restartIdle i).sendReply
      (s.replyCell c { status := .sequence, data := dataWords (x.lastSeq.setWidth 32) 0 0 0 }) := by
  simp only [inSession, hs, State.restartIdle_get he, Session.nextSeq, if_neg hnext, if_neg hlast, State.restartIdle_replyCell]
  rfl

/-- Step 7, R139: what a command comes to that needs the claim its session does not hold. -/
def ownNotHolder (_ : Control) (_ : Fin 4) (s : State) : Done := Done.same s s.notHolder

@[simp] theorem State.advanceSeq_claim (s : State) (i : Fin 4) (n : Byte) : (s.advanceSeq i n).sess.claim = s.sess.claim := by
  unfold State.advanceSeq
  split <;> rfl

/-- Step 7, R139: the command's own checks and effects are not asked for. -/
theorem inSession_unclaimed (hs : s.sessionOf (c.src.setWidth 6) = some i) (hcl : claim c = true) (hnot : s.sess.claim ≠ some i) :
    inSession claim own c s = inSession noClaim ownNotHolder c s := by
  have hstop (n : Byte) : claim c = true ∧ ((s.restartIdle i).advanceSeq i n).sess.claim ≠ some i := by
    rw [State.advanceSeq_claim, State.restartIdle_claim]
    exact ⟨hcl, hnot⟩
  simp only [inSession, hs, if_pos (hstop _), noClaim, Bool.false_eq_true, false_and, if_false, ownNotHolder]

end

/-! ### The holder of the claim (R139) -/

/-- R139, R180: the claim holder's node as a field, FFh where the claim is free. -/
def State.holderField (s : State) : Byte :=
  match s.sess.claim with
  | some j => nodeField (s.managerOf j)
  | none => 0xFF#8

theorem State.nodeField_claimHolder (s : State) : nodeField s.claimHolder = s.holderField := by
  unfold State.claimHolder State.holderField
  cases s.sess.claim <;> rfl

/-- An accepted command's session keeps its manager. -/
theorem State.begun_managerOf {s : State} {i : Fin 4} {x : Session} (h : s.sess.entries.get i = some x) (c : Control)
    (rest : List ControlCell) (j : Fin 4) : (s.begun c rest i x).managerOf j = s.managerOf j := by
  simp only [State.managerOf, State.begun, Table.get_set]
  split
  · next hij =>
    rw [← hij, h]
    rfl
  · rfl

theorem State.begun_holderField {s : State} {i : Fin 4} {x : Session} (h : s.sess.entries.get i = some x) (c : Control)
    (rest : List ControlCell) : (s.begun c rest i x).holderField = s.holderField := by
  simp only [State.holderField, State.begun_managerOf h]
  rfl

theorem State.notHolder_eq (s : State) :
    s.notHolder = { status := .notHolder, data := dataWords (s.holderField.setWidth 32) 0 0 0 } := by
  rw [State.notHolder, State.nodeField_claimHolder, Reply.word0]

/-- R139: the NOT_HOLDER reply of an accepted command. -/
theorem ownNotHolder_begun {s : State} {i : Fin 4} {x : Session} (h : s.sess.entries.get i = some x) (c : Control)
    (rest : List ControlCell) : ownNotHolder c i (s.unflagged.begun c rest i x) = Done.same (s.unflagged.begun c rest i x)
      { status := .notHolder, data := dataWords (s.holderField.setWidth 32) 0 0 0 } := by
  rw [ownNotHolder, State.notHolder_eq, State.begun_holderField (s := s.unflagged) h]
  rfl

/-! ### The statements -/

/-- Settles O30: by what an execution asks for, in the order of R126 and R128. -/
theorem executionAndSender : Obligations.ExecutionAndSender := by
  intro s op hheld
  obtain ⟨body, hexec⟩ := exec_intakeCommand op
  refine ⟨fun h => ?_, fun c rest htakes => ⟨fun hop => ?_, fun hop hsrc => ?_, fun hop hdiscover hopen hsrc hnone => ?_⟩⟩
  · rw [hexec]
    exact live_unchanged (execution_not_taken (State.executable_eq_none.2 h))
  · rw [hexec]
    exact live_unchanged (execution_other htakes.unflagged hop)
  · rw [hexec, live_execution_badSender htakes hop hsrc]
  · obtain ⟨claim, own, -, hsteps⟩ := exec_intakeCommand_inSession hdiscover hopen
    rw [hsteps]
    have hnone' : (s.unflagged.beginExecution rest).sessionOf (c.src.setWidth 6) = none := State.sessionOf_eq_none (s := s) hnone
    exact congrArg Host.Outcome.next (live_execution_silent htakes hop hsrc (inSession_noSession hnone') rfl)

/-- Settles O31: a control payload is read back as the fields it was made of. -/
theorem replyContent : Obligations.ReplyContent := by
  intro s c r cell k
  have hk : k =
      { dest := c.src, src := s.nodeAddress.setWidth 8, seq := c.seq, op := c.op, flags := 0x80#8, status := r.status.code
        arg := r.arg, count := r.count, index := r.index, data := r.data } := Control.ofPayload_append _ _
  rw [hk]
  exact ⟨rfl, rfl, rfl, rfl, rfl, rfl, rfl, rfl, rfl, rfl, rfl, goodPayload_toPayload _⟩

/-- Settles O32: by step 5 of R128, which comes after the restart of the idle timer. -/
theorem sequenceCheck : Obligations.SequenceCheck := by
  intro s c rest i x htakes hsrc hs he hdiscover hopen hnext heard
  obtain ⟨claim, own, -, hexec⟩ := exec_intakeCommand_inSession hdiscover hopen
  have hheard (cell : ControlCell) :
      ((s.unflagged.beginExecution rest).restartIdle i).sendReply cell = (heard cell).unflagged := by
    rw [State.restartIdle_some (s := s.unflagged.beginExecution rest) he]
    rfl
  have answers {cell : ControlCell} (h : inSession claim own c (s.unflagged.beginExecution rest)
      = ((s.unflagged.beginExecution rest).restartIdle i).sendReply cell) :
      exec (intakeCommand (Op.ofCode c.op)) s = .next (heard cell) := by
    rw [hexec]
    exact congrArg Host.Outcome.next (live_execution_silent htakes rfl hsrc (h.trans (hheard cell)) rfl)
  exact ⟨fun hlast => answers (inSession_repeated hs he hnext hlast),
    fun hlast => answers (inSession_outOfSequence hs he hnext hlast)⟩

/-- Settles O33: the session steps stop at step 7 of R128. -/
theorem notHolderWithoutTheClaim : Obligations.NotHolderWithoutTheClaim := by
  intro s c rest i x op hacc hop hneeds hnot _
  have hdiscover : some op ≠ some .discover := by
    rintro ⟨⟩
    cases hneeds
  have hopen : some op ≠ some .openSession := by
    rintro ⟨⟩
    cases hneeds
  obtain ⟨claim, own, hclaim, hexec⟩ := exec_intakeCommand_inSession hdiscover hopen
  have hstops : inSession claim own c (s.unflagged.beginExecution rest)
      = inSession noClaim ownNotHolder c (s.unflagged.beginExecution rest) :=
    inSession_unclaimed hacc.session ((hclaim c).trans hneeds) hnot
  calc exec (opCommand op) s
    _ = .next (live (execution (some op) (inSession claim own)) s) := hexec s
    _ = .next (live (execution (some op) (inSession noClaim ownNotHolder)) s) :=
        congrArg Host.Outcome.next (live_execution_congr hacc.takes hop hstops)
    _ = _ := congrArg Host.Outcome.next (live_accepted_same hacc hop nofun (ownNotHolder_begun hacc.entry c rest))

/-- R182: the identity words, with their codes written out. -/
theorem State.identity_eq (s : State) : s.identity =
    dataWords 0x3A1C2416#32 (0x01#8 ++ s.nodeAddress.setWidth 8 ++ BitVec.ofNat 8 s.freeSessions ++ 0x04#8) 0x01000200#32
      0x80080100#32 := rfl

/-- Settles O34: DISCOVER asks for the sender's session only to restart its idle timer. -/
theorem discover : Obligations.Discover := by
  intro s c rest htakes hsrc hop cell
  have hcell : ((s.unflagged.beginExecution rest).replyCell c
      { status := .ok, data := (s.unflagged.beginExecution rest).identity }) = cell := by
    rw [State.identity_eq]
    rfl
  refine ⟨fun hnone => congrArg Host.Outcome.next (live_execution_silent htakes hop hsrc ?_ rfl),
    fun i x hs he => congrArg Host.Outcome.next (live_execution_silent htakes hop hsrc ?_ rfl)⟩
  · have hnone' : (s.unflagged.beginExecution rest).sessionOf (c.src.setWidth 6) = none := hnone
    simp only [bodyDiscover, hnone', hcell]
    rfl
  · have hs' : (s.unflagged.beginExecution rest).sessionOf (c.src.setWidth 6) = some i := hs
    simp only [bodyDiscover, hs', hcell, State.restartIdle_some (s := s.unflagged.beginExecution rest) he]
    rfl

end Sys2Proof.Machine
end

section
/-! PROOF. The accepted commands BAD_OP, PING, GET and STATUS, CLOSE, CLAIM and RELEASE, and RESTART (R128, R134, R137, R138, R140, R141,
R144 to R146). -/

namespace Sys2Proof.Machine

-- One proof body at a time: each thread reserves memory, and the whole text as one file comes close to the limit of the check.
set_option Elab.async false

/-! ### Counting sessions (R129, R135) -/

/-- A record that changes counts for what it was before and for what it has become. -/
theorem Table.count_set {α : Type} {n : Nat} (t : Table α n) (p : α → Bool) (i : Fin n) (a : α) :
    (t.set i a).count p = (t.count p - if p (t.get i) then 1 else 0) + if p a then 1 else 0 :=
  List.countP_set (by rw [t.size]; exact i.isLt)

theorem Table.count_pos {α : Type} {n : Nat} {t : Table α n} {p : α → Bool} {i : Fin n} (h : p (t.get i) = true) :
    0 < t.count p :=
  List.countP_pos_iff.2 ⟨_, List.getElem_mem _, h⟩

/-- A record that counts as the one before it leaves the count. -/
theorem Table.count_set_same {α : Type} {n : Nat} {t : Table α n} {p : α → Bool} {i : Fin n} {a : α} (h : p a = p (t.get i)) :
    (t.set i a).count p = t.count p := by
  rw [Table.count_set, h]
  split
  · next hp => exact Nat.sub_add_cancel (Table.count_pos hp)
  · rfl

/-! ### Queries (R128, R138, R144, R145) -/

/-- Section 10.4: the ARG values that name no setting. -/
theorem decodeSetting_eq_none {x : Byte} (h : x.toNat = 0 ∨ 9 < x.toNat) : decodeSetting x = none := by
  unfold decodeSetting
  split
  case h_10 => rfl
  all_goals omega

section
variable {s : State} {c : Control} {rest : List ControlCell} {i : Fin 4} {x : Session} {name : SettingName}

theorem ownGet_noSetting (h : decodeSetting c.arg = none) : ownGet c i s = Done.same s { status := .badParam } := by
  simp only [ownGet, h]

theorem ownGet_setting (h : decodeSetting c.arg = some name) :
    ownGet c i s = Done.same s { status := .ok, data := dataWords (settingValue s.settings name) 0 0 0 } := by
  simp only [ownGet, h, Reply.word0]

/-- R145: STATUS shows the holder of the claim and the OPEN sessions as they stood before the command, and intake as it leaves it. -/
theorem State.begun_statusWords (h : s.sess.entries.get i = some x) : (s.begun c rest i x).statusWords =
    dataWords
      (rxStateCode s.rx.state ++ bankCode s.cal.active ++ yesNo s.cal.commitPending ++ lastResetCode s.engine.lastReset)
      (BitVec.ofNat 16 s.pool.free ++ reportStateCode s.events.reportState ++ s.events.number)
      (s.holderField ++ BitVec.ofNat 8 s.openSessions ++ BitVec.ofNat 8 rest.length ++ BitVec.ofNat 8 s.engine.egress.length)
      0 := by
  have hopen : (s.begun c rest i x).openSessions = s.openSessions := Table.count_set_same (by rw [h]; rfl)
  rw [State.statusWords, State.nodeField_claimHolder, State.begun_holderField h, hopen]
  rfl

end

/-- Settles O36: each command's own part changes nothing, and only the reply is left to be told. -/
theorem sessionQueries : Obligations.SessionQueries := by
  intro s c rest i x hacc answers
  have query {op : Option Op} {own : Control → Fin 4 → State → Done} {r : Reply} (hop : Op.ofCode c.op = op)
      (hown : own c i (s.unflagged.begun c rest i x) = Done.same (s.unflagged.begun c rest i x) r) :
      (.next (live (execution op (inSession noClaim own)) s) : Host.Outcome State Fault Refusal)
        = .next (s.executed c rest i x (s.replyCell c r)) :=
    congrArg Host.Outcome.next (live_accepted_same hacc hop nofun hown)
  refine ⟨fun hop => query (own := ownBadOp) hop rfl, fun hop => query (own := ownPing) hop rfl,
    fun hop harg => query hop (ownGet_noSetting (decodeSetting_eq_none harg)), fun name hop hname => query hop (ownGet_setting hname),
    fun hop _ => query (own := ownStatus) hop ?_⟩
  rw [ownStatus, State.begun_statusWords (s := s.unflagged) hacc.entry]
  rfl

/-! ### CLOSE, CLAIM and RELEASE (R134, R137, R140, R141) -/

theorem State.teardown_unflagged (s : State) (i : Fin 4) : s.unflagged.teardown i = (s.teardown i).unflagged := by
  rw [State.teardown_eq, State.teardown_eq]
  rfl

/-- R137: no reply is cached in a session that is FREE. -/
theorem State.cacheReply_free {s : State} {i : Fin 4} (h : s.sess.entries.get i = none) (k : ControlCell) : s.cacheReply i k = s := by
  simp only [State.cacheReply, h]

theorem State.teardown_get (s : State) (i : Fin 4) : (s.teardown i).sess.entries.get i = none := by
  rw [State.teardown_eq]
  exact Table.get_set_self _ _ _

/-- R137: CLOSE is answered after its session has ended. -/
theorem closeSession_concluded (s : State) (c : Control) (rest : List ControlCell) (i : Fin 4) (x : Session) :
    (s.begun c rest i x).conclude c i (ownClose c i (s.begun c rest i x))
      = (s.teardown i).answered rest (s.replyCell c { status := .ok }) := by
  simp only [State.conclude, ownClose, State.cacheReply_free (State.teardown_get _ _)]
  simp only [State.teardown_eq, State.begun, Table.set_set]
  rfl

section
variable {c : Control} {s : State} {i : Fin 4}

/-- R140: the claim is taken, or held already. -/
theorem ownClaim_taken (h : s.sess.claim = none ∨ s.sess.claim = some i) :
    ownClaim c i s = { state := { s with sess := { s.sess with claim := some i } }, reply := { status := .ok } } := by
  rcases h with h | h
  · simp only [ownClaim, h]
  · have hsame : ({ s with sess := { s.sess with claim := some i } } : State) = s := by rw [← h]
    simp only [ownClaim, h, if_true, hsame, Done.same]

/-- R140: the claim is another session's. -/
theorem ownClaim_refused {j : Fin 4} (h : s.sess.claim = some j) (hne : j ≠ i) : ownClaim c i s = ownNotHolder c i s := by
  simp only [ownClaim, h, if_neg hne, ownNotHolder]

end

/-- Settles O37: a claim command changes the claim or comes to NOT_HOLDER, and CLOSE leaves no entry to cache its reply in. -/
theorem closeClaimRelease : Obligations.CloseClaimRelease := by
  intro s c rest i x hacc _ ok refused claimed
  have refusing {op : Option Op} {own : Control → Fin 4 → State → Done} (hop : Op.ofCode c.op = op)
      (hown : own c i (s.unflagged.begun c rest i x) = ownNotHolder c i (s.unflagged.begun c rest i x)) :
      (.next (live (execution op (inSession noClaim own)) s) : Host.Outcome State Fault Refusal)
        = .next (s.executed c rest i x refused) :=
    congrArg Host.Outcome.next (live_accepted_same hacc hop nofun (hown.trans (ownNotHolder_begun hacc.entry c rest)))
  have claiming {op : Option Op} {own : Control → Fin 4 → State → Done} {z : Option (Fin 4)} (hop : Op.ofCode c.op = op)
      (hown : own c i (s.unflagged.begun c rest i x) =
        { state := (claimed z).unflagged.begun c rest i x, reply := { status := .ok } }) :
      (.next (live (execution op (inSession noClaim own)) s) : Host.Outcome State Fault Refusal)
        = .next ((claimed z).executed c rest i x ok) :=
    congrArg Host.Outcome.next (live_accepted hacc hop nofun rfl hown)
  refine ⟨fun hop => ?close, fun hop hclaim => claiming hop (ownClaim_taken hclaim),
    fun j hop hclaim hne => refusing hop (ownClaim_refused hclaim hne),
    fun hop hclaim => claiming (own := ownRelease) hop (if_pos hclaim),
    fun hop hclaim => refusing (own := ownRelease) hop (if_neg hclaim)⟩
  refine congrArg Host.Outcome.next
    ((live_execution_accepted (claim := noClaim) hacc hop nofun).trans (oneEvent_silent ?_ rfl))
  rw [closeSession_concluded, State.teardown_unflagged, State.teardown_eq]
  rfl

/-! ### RESTART (R146) -/

section
variable {s : State} {c : Control} {i : Fin 4} {kind : RestartKind}

theorem ownRestart_kind (h : decodeRestart c.arg = some kind) : ownRestart c i s =
    { state := { s with engine := { s.engine with restartPending := true } }, reply := { status := .ok, arg := c.arg }
      mark := some kind } := by
  simp only [ownRestart, h]

theorem ownRestart_noKind (h : decodeRestart c.arg = none) : ownRestart c i s = Done.same s { status := .badParam } := by
  simp only [ownRestart, h]

/-- R180: the ARG values that name no kind of restart. -/
theorem decodeRestart_eq_none {x : Byte} (h1 : x ≠ 1) (h2 : x ≠ 2) : decodeRestart x = none := by
  unfold decodeRestart
  split
  · next h => exact absurd (BitVec.eq_of_toNat_eq h) h1
  · next h => exact absurd (BitVec.eq_of_toNat_eq h) h2
  · rfl

end

/-- Settles O40: by the kind that ARG names. -/
theorem restartCommand : Obligations.RestartCommand := by
  intro s c rest i x hacc hop pending
  obtain ⟨hacc, hclaim⟩ := hacc
  have marked {kind : RestartKind} (h : decodeRestart c.arg = some kind) : pending kind :=
    congrArg Host.Outcome.next (live_execution_executed hacc hop (fun _ => hclaim) rfl fun _ hu => hu ▸ ownRestart_kind h)
  exact ⟨fun h => marked (by rw [h]; rfl), fun h => marked (by rw [h]; rfl), fun h1 h2 =>
    congrArg Host.Outcome.next
      (live_accepted_same hacc hop (fun _ => hclaim) (ownRestart_noKind (decodeRestart_eq_none h1 h2)))⟩

end Sys2Proof.Machine
end

section
/-! PROOF. OPEN (R134, R136). -/

namespace Sys2Proof.Machine

-- One proof body at a time: each thread reserves memory, and the whole text as one file comes close to the limit of the check.
set_option Elab.async false

/-! ### The claim holder and the FREE entries around a new session (R129, R139) -/

section
variable {s : State} {i : Fin 4}

/-- R139: the holder's node is read from no other entry. -/
theorem State.setSession_holderField (h : s.sess.claim ≠ some i) (y : Option Session) :
    (s.setSession i y).holderField = s.holderField := by
  simp only [State.holderField, State.setSession_sess]
  cases hclaim : s.sess.claim with
  | none => rfl
  | some j =>
    have hne : i ≠ j := fun hij => h (hij ▸ hclaim)
    simp only [State.managerOf_setSession, if_neg hne]

theorem State.teardown_claim_ne (s : State) (i : Fin 4) : (s.teardown i).sess.claim ≠ some i := by
  rw [State.teardown_eq]
  intro h
  obtain ⟨hne, he⟩ := Option.ite_none_left_eq_some.1 h
  exact hne he

/-- R134: a teardown frees the claim of its own session alone. -/
theorem State.teardown_holderField (s : State) (i : Fin 4) :
    (s.teardown i).holderField = if s.sess.claim = some i then 0xFF#8 else s.holderField := by
  split
  · next h => simp only [State.holderField, State.teardown_eq, if_pos h]
  · next h =>
    rw [← State.setSession_holderField h none]
    simp only [State.holderField, State.managerOf, State.teardown_eq, if_neg h, State.setSession]

/-- R136: a session that opens in a FREE entry leaves one fewer of them. -/
theorem State.setSession_freeSessions (h : s.sess.entries.get i = none) (y : Session) :
    (s.setSession i (some y)).freeSessions = s.freeSessions - 1 := by
  rw [State.freeSessions, State.setSession_sess, Table.count_set, h]
  rfl

/-- R136: a session that ends and opens anew leaves as many entries FREE. -/
theorem State.teardown_freeSessions (h : (s.sess.entries.get i).isSome = true) (y : Session) :
    ((s.teardown i).setSession i (some y)).freeSessions = s.freeSessions := by
  rw [State.teardown_eq, State.freeSessions, State.setSession_sess, Table.set_set]
  exact Table.count_set_same (by rw [Option.isNone_some, Option.isNone_eq_false_iff.2 h])

end

/-! ### The cases of OPEN (R136) -/

section
variable {s : State} {c : Control} {i : Fin 4} {x : Session}

/-- Case 1: the reply to this very OPEN is sent again. -/
theorem bodyOpen_again (hs : s.sessionOf (c.src.setWidth 6) = some i) (he : s.sess.entries.get i = some x)
    (hcached : answersOpen x c.seq = true) : bodyOpen c s = (s.restartIdle i).resend x.cached := by
  simp only [bodyOpen, hs, he, if_pos hcached]

/-- Case 2: the sender's session ends and a new one takes its entry. -/
theorem bodyOpen_anew (hs : s.sessionOf (c.src.setWidth 6) = some i) (he : s.sess.entries.get i = some x)
    (hcached : answersOpen x c.seq = false) : bodyOpen c s = ((s.teardown i).hand .sessionEnded).newSession c i := by
  simp only [bodyOpen, hs, he, hcached, Bool.false_eq_true, if_false]

/-- Case 3: a new session takes the lowest FREE entry. -/
theorem bodyOpen_fresh (hs : s.sessionOf (c.src.setWidth 6) = none) (he : s.sess.entries.get i = none)
    (hlow : ∀ j, j < i → (s.sess.entries.get j).isSome = true) : bodyOpen c s = s.newSession c i := by
  have hfind : s.sess.entries.find? Option.isNone = some i :=
    Table.find?_eq_some.2 ⟨by rw [he]; rfl, fun j hj => Option.isNone_eq_false_iff.2 (hlow j hj)⟩
  simp only [bodyOpen, hs, hfind]

/-- Case 4: no entry is FREE. -/
theorem bodyOpen_full (hs : s.sessionOf (c.src.setWidth 6) = none) (hall : ∀ j, (s.sess.entries.get j).isSome = true) :
    bodyOpen c s = s.sendReply (s.replyCell c { status := .sessionsFull }) := by
  have hfind : s.sess.entries.find? Option.isNone = none :=
    Table.find?_eq_none.2 fun j => Option.isNone_eq_false_iff.2 (hall j)
  simp only [bodyOpen, hs, hfind]

theorem answersOpen_iff {seq : Byte} : answersOpen x seq = true ↔
    (Control.ofPayload x.cached.payload).op = 0x02#8 ∧ (Control.ofPayload x.cached.payload).seq = seq := by
  simp only [answersOpen, openCode, Bool.and_eq_true, beq_iff_eq]

end

/-- R136: the reply of a new session, which shows *session timeout*, the claim holder and the FREE entries. -/
def State.openedCell (s : State) (c : Control) (holder : Byte) (free : Nat) : ControlCell :=
  s.replyCell c
    { status := .ok
      data := dataWords (BitVec.ofNat 32 s.settings.sessionTimeout) (holder.setWidth 32) (BitVec.ofNat 32 free) 0 }

/-- R136: the session that OPEN begins. -/
def openedSession (c : Control) (cell : ControlCell) : Session :=
  { manager := c.src.setWidth 6, lastSeq := c.seq, cached := cell, idleTimer := 0 }

/-- R136: a new session and its reply, where the holder and the number of FREE entries do not turn on the reply it caches. -/
theorem State.newSession_eq {s : State} {i : Fin 4} {holder : Byte} {free : Nat} (c : Control)
    (hholder : ∀ y, (s.setSession i (some y)).holderField = holder)
    (hfree : ∀ y, (s.setSession i (some y)).freeSessions = free) :
    s.newSession c i =
      (s.setSession i (some (openedSession c (s.openedCell c holder free)))).sendReply (s.openedCell c holder free) := by
  simp only [State.newSession, State.openReply, State.nodeField_claimHolder, hholder, hfree]
  rfl

/-- Settles O35: the four cases of R136, and what a teardown and a new session leave of the claim and of the FREE entries. -/
theorem openHasFourCases : Obligations.OpenHasFourCases := by
  intro s c rest htakes hsrc hop hclaimed opened holder
  refine ⟨fun i x hs he hopcode hseq => ?again, fun i x hs he hother => ?anew, fun i hs he hlow => ?fresh, fun hs hall => ?full⟩
  case again =>
    refine congrArg Host.Outcome.next (live_execution_silent htakes hop hsrc ?_ rfl)
    rw [bodyOpen_again (s := s.unflagged.beginExecution rest) hs he (answersOpen_iff.2 ⟨hopcode, hseq⟩),
      State.restartIdle_some (s := s.unflagged.beginExecution rest) he]
    rfl
  case anew =>
    have hcached : answersOpen x c.seq = false := by
      rw [← Bool.not_eq_true, answersOpen_iff, not_and_or]
      exact hother
    let torn : State := (s.beginExecution rest).teardown i
    have htorn : ((s.unflagged.beginExecution rest).teardown i).hand .sessionEnded = torn.unflagged.handsOver [.sessionEnded] :=
      (congrArg (State.hand · .sessionEnded) (State.teardown_unflagged (s.beginExecution rest) i)).trans (State.hand_unflagged _ _)
    have hholder (y : Session) : ((torn.unflagged.handsOver [.sessionEnded]).setSession i (some y)).holderField
        = if s.sess.claim = some i then 0xFF#8 else holder :=
      (State.setSession_holderField (State.teardown_claim_ne _ _) _).trans (State.teardown_holderField (s.beginExecution rest) i)
    have hfree (y : Session) : ((torn.unflagged.handsOver [.sessionEnded]).setSession i (some y)).freeSessions = s.freeSessions :=
      State.teardown_freeSessions (s := s.beginExecution rest) (Option.isSome_of_eq_some he) y
    refine congrArg Host.Outcome.next (live_execution_handsOver htakes hop hsrc ?_ rfl)
    rw [bodyOpen_anew (s := s.unflagged.beginExecution rest) hs he hcached, htorn, State.newSession_eq c hholder hfree]
    simp only [torn, State.teardown_eq, State.setSession, State.handsOver, State.unflagged, Table.set_set]
    rfl
  case fresh =>
    have hne : s.sess.claim ≠ some i := fun h => by simpa [he] using hclaimed i h
    have hholder (y : Session) : ((s.unflagged.beginExecution rest).setSession i (some y)).holderField = holder :=
      State.setSession_holderField hne _
    have hfree (y : Session) : ((s.unflagged.beginExecution rest).setSession i (some y)).freeSessions = s.freeSessions - 1 :=
      State.setSession_freeSessions he y
    refine congrArg Host.Outcome.next (live_execution_silent htakes hop hsrc ?_ rfl)
    rw [bodyOpen_fresh (s := s.unflagged.beginExecution rest) hs he hlow, State.newSession_eq c hholder hfree]
    rfl
  case full =>
    exact congrArg Host.Outcome.next (live_execution_silent htakes hop hsrc
      (bodyOpen_full (s := s.unflagged.beginExecution rest) hs hall) rfl)

end Sys2Proof.Machine
end

section
/-! PROOF. The values that SET takes (R142, R143), and a tick at the Session Table (R132 to R134, R159). -/

namespace Sys2Proof.Machine

-- One proof body at a time: each thread reserves memory, and the whole text as one file comes close to the limit of the check.
set_option Elab.async false

/-! ### The values of the settings (R142, R143, section 10.4) -/

theorem decodeQueue_isSome {n : Nat} : (decodeQueue n).isSome = true ↔ n ≤ 7 := by
  rw [Option.isSome_iff_exists]
  simp only [decodeQueue_eq_some]
  exact ⟨fun ⟨q, hq⟩ => by omega, fun h => ⟨⟨n, by omega⟩, rfl⟩⟩

/-- R180: the words that name a node, or NONE. -/
theorem decodeNode_isSome {w : Word} : (decodeNode w).isSome = true ↔ w.toNat ≤ 63 ∨ w.toNat = 0xFF := by
  have hnone : w = 0xFF#32 ↔ w.toNat = 0xFF := BitVec.toNat_inj.symm
  unfold decodeNode
  split
  · next h => exact iff_of_true rfl (.inl (by omega))
  · next h =>
    rw [Option.isSome_ite, hnone]
    omega

/-- A setting whose value has to be in a range. -/
theorem isSome_inRange {α : Type} {lo hi n : Nat} {a : α} :
    (if inRange lo hi n then some a else none).isSome = true ↔ lo ≤ n ∧ n ≤ hi := by
  rw [Option.isSome_ite, inRange_iff]

theorem setSetting_unknownPolicy_isSome (x : Settings) (w : Word) :
    (setSetting x .unknownPolicy w).isSome = true ↔ w.toNat ≤ 1 := by
  simp only [setSetting]
  split
  · next h => exact iff_of_true rfl (by omega)
  · rw [Option.isSome_ite]
    omega

/-- R143: a setting that SET does not name keeps its value: SET writes the one field of its name, which `hne` excludes. -/
theorem settingValue_setSetting_ne {x y : Settings} {name other : SettingName} {w : Word} (h : setSetting x name w = some y)
    (hne : other ≠ name) : settingValue y other = settingValue x other := by
  cases name with
  | unknownPolicy =>
    simp only [setSetting] at h
    split at h
    · cases h
      cases other <;> trivial
    · obtain ⟨-, he⟩ := Option.ite_none_right_eq_some.1 h
      cases he
      cases other <;> trivial
  | unknownQueue | reportTarget =>
    obtain ⟨_, -, rfl⟩ := Option.map_eq_some_iff.1 h
    cases other <;> trivial
  | reportMask | dropLimit | reportTimeout | reportRetries | sessionTimeout | controlHop =>
    obtain ⟨-, he⟩ := Option.ite_none_right_eq_some.1 h
    cases he
    cases other <;> trivial

/-- Settles O38: setting by setting the values taken, and in general what is then held. -/
theorem settingValues : Obligations.SettingValues := by
  intro x w
  have hqueue : (setSetting x .unknownQueue w).isSome = true ↔ w.toNat ≤ 7 := by
    rw [setSetting, Option.isSome_map, decodeQueue_isSome]
  have htarget : (setSetting x .reportTarget w).isSome = true ↔ w.toNat ≤ 63 ∨ w.toNat = 0xFF := by
    rw [setSetting, Option.isSome_map, decodeNode_isSome]
  have hmask : (setSetting x .reportMask w).isSome = true ↔ w.toNat < 16384 := by rw [setSetting, Option.isSome_ite]
  have upTo {α : Type} {hi : Nat} {a : α} : (if inRange 0 hi w.toNat then some a else none).isSome = true ↔ w.toNat ≤ hi :=
    isSome_inRange.trans (and_iff_right (Nat.zero_le _))
  exact ⟨setSetting_unknownPolicy_isSome x w, hqueue, upTo, htarget, hmask, isSome_inRange, upTo, isSome_inRange, isSome_inRange,
    fun name y h => ⟨settingValue_setSetting h, fun other hne => settingValue_setSetting_ne h hne⟩⟩

/-! ### The sessions that a tick ends (R132 to R134, R159) -/

/-- R134: the teardown of several sessions, as one table entry, the claim and the snapshot buffer read it. -/
theorem foldl_teardown_entries (is : List (Fin 4)) (s : State) (j : Fin 4) :
    (is.foldl State.teardown s).sess.entries.get j = if j ∈ is then none else s.sess.entries.get j := by
  induction is generalizing s with
  | nil => rfl
  | cons i is ih =>
    rw [List.foldl_cons, ih, State.teardown_eq]
    simp only [Table.get_set, List.mem_cons]
    by_cases hmem : j ∈ is
    · simp [hmem]
    · simp [hmem, eq_comm]

theorem foldl_teardown_claim (is : List (Fin 4)) (s : State) :
    (is.foldl State.teardown s).sess.claim = if ∃ i ∈ is, s.sess.claim = some i then none else s.sess.claim := by
  induction is generalizing s with
  | nil => simp
  | cons i is ih =>
    rw [List.foldl_cons, ih, State.teardown_eq]
    by_cases h : s.sess.claim = some i <;> simp [h]

theorem foldl_teardown_snapshot (is : List (Fin 4)) (s : State) :
    (is.foldl State.teardown s).counters.snapshot =
      if ∃ i ∈ is, s.counters.snapshot.owner = some i then .empty else s.counters.snapshot := by
  induction is generalizing s with
  | nil => simp
  | cons i is ih =>
    rw [List.foldl_cons, ih, State.teardown_eq]
    by_cases h : s.counters.snapshot.owner = some i <;> simp [h, Snapshot.empty]

/-- R134: what teardowns reach. -/
theorem foldl_teardown_frame (is : List (Fin 4)) (s : State) : is.foldl State.teardown s =
    { s with
      sess := (is.foldl State.teardown s).sess
      counters := { s.counters with snapshot := (is.foldl State.teardown s).counters.snapshot } } := by
  induction is generalizing s with
  | nil => rfl
  | cons i is ih =>
    rw [List.foldl_cons, ih, State.teardown_eq]

theorem foldl_teardown_unflagged (is : List (Fin 4)) (s : State) :
    is.foldl State.teardown s.unflagged = (is.foldl State.teardown s).unflagged := by
  induction is generalizing s with
  | nil => rfl
  | cons i is ih => rw [List.foldl_cons, List.foldl_cons, State.teardown_unflagged, ih]

/-- R132, R133: the sessions that a tick brings to the *session timeout*. -/
def State.expiring (s : State) : List (Fin 4) := s.raiseIdle.sess.entries.indices (expires s.settings.sessionTimeout)

theorem State.mem_expiring {s : State} {i : Fin 4} :
    i ∈ s.expiring ↔ expires s.settings.sessionTimeout ((s.sess.entries.get i).map Session.ticked) = true := by
  rw [State.expiring, Table.mem_indices, State.raiseIdle, Table.get_map]

/-- R132: the part with the tick taken and every idle timer risen. -/
def State.tickRaised (s : State) : State :=
  ({ s with handover := { s.handover with sessionTicks := s.handover.sessionTicks - 1 } } : State).raiseIdle

/-- R133, R134: the part after a tick at the Session Table, its flag apart. -/
def State.afterTick (s : State) : State := s.expiring.foldl State.teardown s.tickRaised

/-- R132 to R134, R159: what a tick reaches. -/
theorem State.afterTick_frame (s : State) : s.afterTick =
    { s with
      sess := s.afterTick.sess
      counters := { s.counters with snapshot := s.afterTick.counters.snapshot }
      handover := { s.handover with sessionTicks := s.handover.sessionTicks - 1 } } :=
  foldl_teardown_frame s.expiring s.tickRaised

theorem State.afterTick_flags (s : State) : s.afterTick.handover.flags = s.handover.flags := by rw [State.afterTick_frame]

/-- R133: SESSION_ENDED is handed over once, where a session ends. -/
def State.tickFlags (s : State) : List EventFlag := if s.expiring ≠ [] then [.sessionEnded] else []

theorem State.sessionTick_unflagged (s : State) : s.unflagged.sessionTick = s.afterTick.unflagged.handsOver s.tickFlags := by
  have hraised : s.unflagged.sessionTick = s.tickRaised.unflagged.expireSessions := rfl
  have hindices : s.tickRaised.unflagged.sess.entries.indices (expires s.tickRaised.unflagged.settings.sessionTimeout) = s.expiring :=
    rfl
  rw [hraised, State.expireSessions, hindices, State.tickFlags, State.afterTick]
  cases s.expiring with
  | nil => rfl
  | cons i is =>
    rw [if_pos (List.cons_ne_nil i is), ← State.hand_unflagged, ← foldl_teardown_unflagged]

theorem State.takeSessionExpiry_ending {s : State} (hticks : s.handover.sessionTicks ≠ 0) (h : s.expiring ≠ []) :
    s.takeSessionExpiry = s.sessionTick := by
  rw [State.takeSessionExpiry, if_neg hticks]
  split
  · next hnone => exact absurd hnone h
  · rfl

/-- The tick of a SESSION_EXPIRY ends a session (log entry 3). -/
theorem State.takeSessionExpiry_silent {s : State} (h : s.expiring = []) : s.takeSessionExpiry = s := by
  unfold State.takeSessionExpiry
  split
  · rfl
  · split
    · rfl
    · next hsome => exact absurd (hsome.symm.trans h) (List.cons_ne_nil _ _)

/-- Settles O26: the tick raises, tears down what has expired, and hands SESSION_ENDED over where something has. -/
theorem sessionTick : Obligations.SessionTick := by
  intro s hheld hticks raised ends
  have hends (i : Fin 4) : i ∈ s.expiring ↔ ends i = true := State.mem_expiring
  have hany : s.expiring ≠ [] ↔ ∃ i, ends i = true :=
    ⟨fun h => (List.exists_mem_of_ne_nil _ h).imp fun i => (hends i).1, fun ⟨i, hi⟩ => List.ne_nil_of_mem ((hends i).2 hi)⟩
  have hticked : s.unflagged.handover.sessionTicks ≠ 0 := Nat.ne_of_gt hticks
  have taken {f : State → State} (h : f s.unflagged = s.unflagged.sessionTick) :
      (.next (live f s) : Host.Outcome State Fault Refusal) = .next (s.afterTick.handsOver s.tickFlags) :=
    congrArg Host.Outcome.next
      ((live_running hheld).trans (oneEvent_handsOver (h.trans s.sessionTick_unflagged) s.afterTick_flags))
  refine ⟨_, taken (if_neg hticked), fun i => ?entries, ?claim, ?snapshot, ?flags, ?frame, fun h => ?ending, fun h => ?silent⟩
  case entries =>
    exact (foldl_teardown_entries _ _ i).trans (if_congr (hends i) rfl (Table.get_map _ _ i))
  case claim =>
    exact (foldl_teardown_claim _ _).trans
      (if_congr (exists_congr fun i => and_comm.trans (and_congr_right' (hends i))) rfl rfl)
  case snapshot =>
    exact (foldl_teardown_snapshot _ _).trans
      (if_congr (exists_congr fun i => and_comm.trans (and_congr_right' (hends i))) rfl rfl)
  case flags =>
    exact congrArg₂ (· ++ ·) s.afterTick_flags (if_congr hany rfl rfl)
  case frame =>
    simp only [State.handsOver]
    conv_lhs => rw [State.afterTick_frame]
    rw [State.afterTick_flags]
  case ending => exact taken (State.takeSessionExpiry_ending hticked (hany.2 h))
  case silent =>
    refine live_unchanged (State.takeSessionExpiry_silent (s := s.unflagged) (Classical.not_not.1 fun hne => ?_))
    obtain ⟨i, hi⟩ := hany.1 hne
    exact Bool.false_ne_true ((h i).symm.trans hi)

end Sys2Proof.Machine
end

section
/-! PROOF. The snapshot commands (R154 to R158): the checks of SNAP-TAKE, the records it copies and the counters it clears, and what SNAP-READ
and SNAP-RELEASE answer to the owner of the buffer and to another session. -/

namespace Sys2Proof.Machine

-- One proof body at a time: each thread reserves memory, and the whole text as one file comes close to the limit of the check.
set_option Elab.async false

/-! ### The checks of SNAP-TAKE (R154, section 10.4) -/

theorem and_three_eq (x : Byte) : x &&& 3 = (x.extractLsb' 0 2).setWidth 8 := by
  apply BitVec.eq_of_toNat_eq
  have hmod : x.toNat &&& 3 = x.toNat % 4 := Nat.and_two_pow_sub_one_eq_mod x.toNat 2
  rw [BitVec.toNat_and, BitVec.toNat_setWidth, BitVec.extractLsb'_toNat, Nat.shiftRight_zero]
  exact hmod.trans (Nat.mod_eq_of_lt (by omega)).symm

theorem decodeSnapSource_eq_some {x : Byte} {source : SnapSource} :
    decodeSnapSource x = some source ↔ x &&& 3 = snapSourceCode source := by
  rw [decodeSnapSource, and_three_eq]
  generalize x.extractLsb' 0 2 = y
  revert y
  cases source <;> decide

theorem decodeSnapSource_eq_none {x : Byte} : decodeSnapSource x = none ↔ x &&& 3 = 3 := by
  rw [decodeSnapSource, and_three_eq]
  generalize x.extractLsb' 0 2 = y
  revert y
  decide

/-- R154: INDEX and COUNT name up to 32 entries of the Stream Table. -/
def NamesEntries (c : Control) : Prop :=
  c.index.toNat ≤ 255 ∧ (1 ≤ c.count.toNat ∧ c.count.toNat ≤ 32) ∧ c.index.toNat + c.count.toNat ≤ 256

/-- R154, check 2: the range of INDEX and COUNT matters to STREAMS alone. -/
theorem snapRange_iff {source : SnapSource} {c : Control} : snapRange source c = true ↔
    (snapSourceCode source = 0 → NamesEntries c) := by
  cases source with
  | streams => simp [snapRange, snapSourceCode, NamesEntries, inRange_iff, and_assoc]
  | queues => simp [snapRange, snapSourceCode]
  | device => simp [snapRange, snapSourceCode]

/-- The source that a SNAP-TAKE names, where it passes the checks of its fields. -/
def snapRequest (c : Control) : Option SnapSource :=
  (decodeSnapSource c.arg).filter fun source => snapArgWellCoded c.arg && snapRange source c

theorem snapRequest_eq_some {c : Control} {source : SnapSource} : snapRequest c = some source ↔
    c.arg &&& 3 = snapSourceCode source ∧ c.arg &&& 0xEC = 0
      ∧ (c.arg &&& 3 = 0 → NamesEntries c) := by
  rw [snapRequest, Option.filter_eq_some_iff, decodeSnapSource_eq_some, Bool.and_eq_true, snapRange_iff]
  refine and_congr_right fun hsource => ?_
  rw [hsource, snapArgWellCoded, beq_iff_eq]
  rfl

/-- R154: the fields of a SNAP-TAKE pass their checks where it names a source at all. -/
theorem exists_snapRequest {c : Control} (hcode : c.arg &&& 0xEC = 0) (hsource : c.arg &&& 3 ≠ 3)
    (hrange : c.arg &&& 3 = 0 → NamesEntries c) : ∃ source, snapRequest c = some source := by
  obtain ⟨source, hsome⟩ := Option.ne_none_iff_exists'.1 (mt decodeSnapSource_eq_none.1 hsource)
  exact ⟨source, snapRequest_eq_some.2 ⟨decodeSnapSource_eq_some.1 hsome, hcode, hrange⟩⟩

theorem State.otherOwner_eq_some {s : State} {i j : Fin 4} :
    s.otherOwner i = some j ↔ s.counters.snapshot.owner = some j ∧ j ≠ i := by
  unfold State.otherOwner
  split
  · next k hk =>
    rw [hk, Option.ite_none_left_eq_some, Option.some_inj]
    exact ⟨fun ⟨hne, he⟩ => ⟨he, he ▸ hne⟩, fun ⟨he, hne⟩ => ⟨he ▸ hne, he⟩⟩
  · next hnone => simp [hnone]

theorem State.otherOwner_eq_none {s : State} {i : Fin 4} :
    s.otherOwner i = none ↔ ∀ j, s.counters.snapshot.owner = some j → j = i := by
  rw [Option.eq_none_iff_forall_ne_some]
  refine forall_congr' fun j => ?_
  rw [ne_eq, State.otherOwner_eq_some, not_and, not_not]

section
variable {s : State} {c : Control} {i : Fin 4}

/-- R154, R155: SNAP-TAKE by the check of its fields, then by the owner of the buffer. -/
theorem ownSnapTake_eq (c : Control) (i : Fin 4) (s : State) : ownSnapTake c i s =
    match snapRequest c with
    | none => Done.same s { status := .badParam }
    | some source =>
      match s.otherOwner i with
      | some j => Done.same s (s.busyOwner j)
      | none =>
        { state := s.takeSnapshot i source (snapClear c.arg) c.index.toNat c.count.toNat
          reply := snapReply source (snapClear c.arg) c.index (s.snapRecords source c.index.toNat c.count.toNat) } := by
  unfold ownSnapTake snapRequest
  cases decodeSnapSource c.arg with
  | none => rfl
  | some source =>
    simp only [Option.filter_some]
    cases snapArgWellCoded c.arg <;> cases snapRange source c <;> rfl

theorem ownSnapTake_badParam (h : snapRequest c = none) : ownSnapTake c i s = Done.same s { status := .badParam } := by
  rw [ownSnapTake_eq, h]

theorem ownSnapTake_busy {source : SnapSource} {j : Fin 4} (h : snapRequest c = some source) (hj : s.otherOwner i = some j) :
    ownSnapTake c i s = Done.same s (s.busyOwner j) := by
  rw [ownSnapTake_eq, h]
  simp only [hj]

theorem ownSnapTake_taken {source : SnapSource} (h : snapRequest c = some source) (hnone : s.otherOwner i = none) :
    ownSnapTake c i s =
      { state := s.takeSnapshot i source (snapClear c.arg) c.index.toNat c.count.toNat
        reply := snapReply source (snapClear c.arg) c.index (s.snapRecords source c.index.toNat c.count.toNat) } := by
  rw [ownSnapTake_eq, h]
  simp only [hnone]

end

/-! ### The records copied (R156) -/

theorem entriesFrom_eq {at_ n : Nat} (h : at_ + n ≤ 256) :
    entriesFrom at_ n = (List.range n).map fun k => Fin.ofNat 256 (at_ + k) := by
  rw [entriesFrom, ← List.filterMap_eq_map]
  refine List.filterMap_congr fun k hk => ?_
  have hlt : at_ + k < 256 := by have := List.mem_range.1 hk; omega
  rw [dif_pos hlt]
  exact congrArg some (Fin.ext (Nat.mod_eq_of_lt hlt).symm)

/-- R156: the counters of a FREE entry are copied as zeros. -/
theorem State.streamSnap_eq (s : State) (n : Fin 256) : s.streamSnap n =
    { object := n.val, entryState := some (s.streams.get n).state
      word0 := if (s.streams.get n).state ≠ .free then (s.counters.streams.get n).arrived else 0
      word1 := if (s.streams.get n).state ≠ .free then (s.counters.streams.get n).marked else 0
      word2 := if (s.streams.get n).state ≠ .free then (s.counters.streams.get n).discardedPolice else 0
      word3 := if (s.streams.get n).state ≠ .free then (s.counters.streams.get n).discardedOther else 0 } := by
  by_cases hfree : (s.streams.get n).state = .free
  · simp [State.streamSnap, hfree, StreamCounters.zero]
  · simp [State.streamSnap, hfree]

/-- R156: device counters 4k to 4k + 3, of sixteen. -/
theorem State.deviceSnap_eq (s : State) (k : Fin 4) : s.deviceSnap k =
    { object := k.val, entryState := none
      word0 := s.counters.device.get (Fin.ofNat 16 (4 * k.val + 0)), word1 := s.counters.device.get (Fin.ofNat 16 (4 * k.val + 1))
      word2 := s.counters.device.get (Fin.ofNat 16 (4 * k.val + 2))
      word3 := s.counters.device.get (Fin.ofNat 16 (4 * k.val + 3)) } := by
  have hplace (j : Fin 4) (h : 4 * k.val + j.val < 16) : (⟨4 * k.val + j.val, h⟩ : Fin 16) = Fin.ofNat 16 (4 * k.val + j.val) :=
    Fin.ext (Nat.mod_eq_of_lt h).symm
  simp only [State.deviceSnap, hplace]
  rfl

/-! ### The reply to a SNAP-TAKE (R155, section 10.4) -/

/-- Section 10.4: the three parts of the reply's ARG stand in bits of their own. -/
theorem snapArg_eq (source : SnapSource) (r : SnapRecord) (clear : Bool) :
    snapSourceCode source ||| (recordStateCode r <<< 2) ||| (if clear then 0x10#8 else 0#8)
      = snapSourceCode source + (recordStateCode r <<< 2) + (if clear then 0x10#8 else 0#8) := by
  unfold recordStateCode
  generalize r.entryState = e
  cases source <;> cases clear <;> rcases e with _ | (_ | _ | _) <;> rfl

theorem snapReply_eq {records : List SnapRecord} {r : SnapRecord} (source : SnapSource) (clear : Bool) (index : BitVec 16)
    (h : records.head? = some r) : snapReply source clear index records =
      { status := .ok
        arg := snapSourceCode source + (recordStateCode r <<< 2) + (if clear then 0x10#8 else 0#8)
        count := BitVec.ofNat 8 records.length
        index := if source = .streams then index else 0
        data := recordWords r } := by
  obtain ⟨rs, rfl⟩ := List.head?_eq_some_iff.1 h
  rw [← snapArg_eq]
  rfl

/-! ### A SNAP command that is accepted -/

section
variable {s : State} {c : Control} {rest : List ControlCell} {i : Fin 4} {x : Session}

/-- An accepted command whose own part writes the Counter Bank alone, over the raise for this execution. -/
theorem live_accepted_counters {y : CounterBank} {op : Option Op} {claim : Control → Bool} {own : Control → Fin 4 → State → Done}
    {r : Reply} (h : s.Accepts c rest i x) (hop : Op.ofCode c.op = op) (hcl : claim c = true → s.sess.claim = some i)
    (hown : own c i (s.unflagged.begun c rest i x) = { state := { s.unflagged.begun c rest i x with counters := y }, reply := r }) :
    live (execution op (inSession claim own)) s = { s.executed c rest i x (s.replyCell c r) with counters := y } := by
  rw [live_execution_accepted h hop hcl, oneEvent_eq_unflagged, State.conclude, hown]
  simp [State.cacheReply, State.begun, State.setSession, State.joinEgress, State.executed, State.answered, State.replyCell,
    State.unflagged]

/-- R154, R158: BUSY tells the owner's manager node as it stood before the command. -/
theorem State.begun_busyOwner (h : s.sess.entries.get i = some x) (c : Control) (rest : List ControlCell) (j : Fin 4) :
    (s.unflagged.begun c rest i x).busyOwner j =
      { status := .busy, data := dataWords ((nodeField (s.managerOf j)).setWidth 32) 0 0 0 } := by
  rw [State.busyOwner, State.begun_managerOf (s := s.unflagged) h]
  rfl

/-- R155: a SNAP-TAKE from `source` that nothing stops. `after` is the Counter Bank as the clear option leaves it. -/
theorem exec_snapTake_taken {source : SnapSource} {records : List SnapRecord} {r : SnapRecord} {after : CounterBank}
    (h : s.Accepts c rest i x) (hop : Op.ofCode c.op = some .snapTake) (hcl : c.arg.getLsbD 4 = true → s.sess.claim = some i)
    (hrequest : snapRequest c = some source) (hmine : ∀ j, s.counters.snapshot.owner = some j → j = i)
    (hrecords : (s.begun c rest i x).snapRecords source c.index.toNat c.count.toNat = records) (hr : records.head? = some r)
    (hafter : (if c.arg.getLsbD 4 then (s.begun c rest i x).counters.cleared source c.index.toNat c.count.toNat
      else (s.begun c rest i x).counters) = after) :
    exec .snapTake s = .next { s.executed c rest i x (s.replyCell c
        { status := .ok
          arg := snapSourceCode source + (recordStateCode r <<< 2) + (if c.arg.getLsbD 4 then 0x10#8 else 0#8)
          count := BitVec.ofNat 8 records.length
          index := if source = .streams then c.index else 0
          data := recordWords r }) with
      counters := { after with snapshot := { records := records, source := some source, owner := some i } } } := by
  rw [← snapReply_eq source _ c.index hr]
  subst hrecords hafter
  exact congrArg Host.Outcome.next (live_accepted_counters (claim := snapNeedsClaim) h hop hcl
    (ownSnapTake_taken hrequest (State.otherOwner_eq_none.2 hmine)))

end

/-- Settles O49: the checks in order, then one copy for each source. -/
theorem snapTake : Obligations.SnapTake := by
  intro s c rest i x hacc hop hclaim z clear refused taken coded first ranges mine
  have same {r : Reply} (hown : ownSnapTake c i (s.unflagged.begun c rest i x) = Done.same _ r) : refused r :=
    congrArg Host.Outcome.next (live_accepted_same (claim := snapNeedsClaim) hacc hop hclaim hown)
  refine ⟨fun hbad => ?bad, fun j hcoded hranges hj hne => ?busy, fun hcoded hranges hmine hsource => ?streams,
    fun hcoded hmine hsource => ?queues, fun hcoded hmine hsource => ?device⟩
  case bad =>
    refine same (ownSnapTake_badParam (Option.eq_none_iff_forall_ne_some.2 fun source hsome => ?_))
    obtain ⟨hsource, hcode, hrange⟩ := snapRequest_eq_some.1 hsome
    refine hbad.elim (fun h => h ⟨hcode, fun hthree => ?_⟩) (fun h => h hrange)
    exact Option.some_ne_none _ ((decodeSnapSource_eq_some.2 hsource).symm.trans (decodeSnapSource_eq_none.2 hthree))
  case busy =>
    obtain ⟨source, hrequest⟩ := exists_snapRequest hcoded.1 hcoded.2 hranges
    rw [← State.begun_busyOwner hacc.entry c rest j]
    exact same (ownSnapTake_busy hrequest (State.otherOwner_eq_some.2 ⟨hj, hne⟩))
  case streams =>
    intro record
    obtain ⟨-, ⟨hpos, -⟩, hend⟩ := hranges hsource
    have hrecords : (s.begun c rest i x).snapRecords .streams first c.count.toNat = (List.range c.count.toNat).map record := by
      rw [State.snapRecords, entriesFrom_eq hend, List.map_map]
      exact List.map_congr_left fun k _ => State.streamSnap_eq _ _
    have hhead : ((List.range c.count.toNat).map record).head? = some (record 0) := by
      rw [List.head?_map, List.head?_range, if_neg (by omega)]
      rfl
    refine ⟨if clear then (z.cleared .streams first c.count.toNat).streams else s.counters.streams, fun n => ?_,
      exec_snapTake_taken (source := .streams) (r := record 0) hacc hop hclaim
        (snapRequest_eq_some.2 ⟨hsource, hcoded.1, hranges⟩) hmine hrecords hhead ?_⟩
    · by_cases hclear : clear
      · simp [hclear, CounterBank.cleared, z]
      · simp [hclear]
    · change (if clear then _ else _) = _
      cases clear <;> rfl
  case queues =>
    intro record
    refine exec_snapTake_taken (source := .queues) (r := record 0) hacc hop hclaim
      (snapRequest_eq_some.2 ⟨hsource, hcoded.1, fun h => absurd (hsource.symm.trans h) (by decide)⟩) hmine rfl rfl ?_
    change (if clear then _ else _) = _
    cases clear <;> rfl
  case device =>
    intro record
    have hrecords : (s.begun c rest i x).snapRecords .device first c.count.toNat = (List.finRange 4).map record :=
      List.map_congr_left fun k _ => State.deviceSnap_eq _ k
    refine exec_snapTake_taken (source := .device) (r := record 0) hacc hop hclaim
      (snapRequest_eq_some.2 ⟨hsource, hcoded.1, fun h => absurd (hsource.symm.trans h) (by decide)⟩) hmine hrecords rfl ?_
    change (if clear then _ else _) = _
    cases clear <;> rfl

/-! ### What the own parts of SNAP-READ and SNAP-RELEASE come to (R157, R158) -/

section
variable {s : State} {c : Control} {i : Fin 4}

theorem ownSnapRead_noSnapshot (h : s.counters.snapshot.owner ≠ some i ∨ s.counters.snapshot.records = []) :
    ownSnapRead c i s = Done.same s { status := .noSnapshot } := if_pos h

/-- R157: to its owner, the buffer is open wherever it holds records. -/
theorem ownSnapRead_owner (howner : s.counters.snapshot.owner = some i) (hrecords : s.counters.snapshot.records ≠ []) :
    ownSnapRead c i s =
      match s.counters.snapshot.records[c.index.toNat]? with
      | none => Done.same s { status := .badParam }
      | some r => Done.same s (s.counters.snapshot.readReply r) :=
  if_neg fun h => h.elim (fun hne => hne howner) hrecords

theorem ownSnapRead_pastEnd (howner : s.counters.snapshot.owner = some i) (hrecords : s.counters.snapshot.records ≠ [])
    (h : s.counters.snapshot.records.length ≤ c.index.toNat) : ownSnapRead c i s = Done.same s { status := .badParam } := by
  rw [ownSnapRead_owner howner hrecords, List.getElem?_eq_none h]

theorem ownSnapRead_record {r : SnapRecord} (howner : s.counters.snapshot.owner = some i)
    (h : s.counters.snapshot.records[c.index.toNat]? = some r) :
    ownSnapRead c i s = Done.same s (s.counters.snapshot.readReply r) := by
  rw [ownSnapRead_owner howner (List.ne_nil_of_mem (List.mem_of_getElem? h)), h]

theorem Snapshot.readReply_of_source {y : Snapshot} {source : SnapSource} (h : y.source = some source) (r : SnapRecord) :
    y.readReply r =
      { status := .ok, arg := snapSourceCode source ||| (recordStateCode r <<< 4), index := BitVec.ofNat 16 r.object
        count := BitVec.ofNat 8 y.records.length, data := recordWords r } := by
  rw [Snapshot.readReply, h]

theorem ownSnapRelease_noneHeld (h : s.counters.snapshot.owner = none) :
    ownSnapRelease c i s = Done.same s { status := .ok, arg := detailNoneHeld } := by
  simp only [ownSnapRelease, h]

theorem ownSnapRelease_owner (h : s.counters.snapshot.owner = some i) :
    ownSnapRelease c i s = { state := s.emptySnapshot, reply := { status := .ok, arg := detailReleased } } := by
  simp only [ownSnapRelease, h, if_pos]

theorem ownSnapRelease_busy {j : Fin 4} (h : s.counters.snapshot.owner = some j) (hne : j ≠ i) :
    ownSnapRelease c i s = Done.same s (s.busyOwner j) := by
  simp only [ownSnapRelease, h, if_neg hne]

end

/-- Settles O50: by the owner of the buffer. -/
theorem snapReadAndRelease : Obligations.SnapReadAndRelease := by
  intro s c rest i x hacc b answers
  have readSame (hop : Op.ofCode c.op = some .snapRead) {r : Reply}
      (hown : ownSnapRead c i (s.unflagged.begun c rest i x) = Done.same _ r) : answers .snapRead s r :=
    congrArg Host.Outcome.next (live_accepted_same (claim := noClaim) hacc hop nofun hown)
  have releaseSame (hop : Op.ofCode c.op = some .snapRelease) {r : Reply}
      (hown : ownSnapRelease c i (s.unflagged.begun c rest i x) = Done.same _ r) : answers .snapRelease s r :=
    congrArg Host.Outcome.next (live_accepted_same (claim := noClaim) hacc hop nofun hown)
  refine ⟨fun hop hnone => readSame hop (ownSnapRead_noSnapshot hnone),
    fun hop howner hrecords hend => readSame hop (ownSnapRead_pastEnd howner hrecords hend),
    fun r source hop howner hr hsource => ?record, fun hop hnone => releaseSame hop (ownSnapRelease_noneHeld hnone),
    fun hop howner => ?release, fun j hop hj hne => ?busy⟩
  case record =>
    exact readSame hop ((ownSnapRead_record (s := s.unflagged.begun c rest i x) howner hr).trans
      (congrArg (Done.same _) (Snapshot.readReply_of_source hsource r)))
  case release =>
    exact congrArg Host.Outcome.next (live_accepted (t := s.emptySnapshot) (claim := noClaim) hacc hop nofun rfl
      (ownSnapRelease_owner howner))
  case busy =>
    rw [← State.begun_busyOwner hacc.entry c rest j]
    exact releaseSame hop (ownSnapRelease_busy hj hne)

end Sys2Proof.Machine
end

section
/-! PROOF. The Event Unit's own events: the setting of a flag (R162, R170), the build, the issue and the sending of a report (R165 to R168), and
a tick at the Event Unit (R169). -/

namespace Sys2Proof.Machine

-- One proof body at a time: each thread reserves memory, and the whole text as one file comes close to the limit of the check.
set_option Elab.async false

/-- A row of the table whose event comes to `t` in the running part, and hands no flag over. -/
theorem live_silent {f : State → State} {s t : State} (hheld : s.resetHeld = false) (h : f s.unflagged = t.unflagged)
    (ht : t.handover.flags = s.handover.flags) : (.next (live f s) : Host.Outcome State Fault Refusal) = .next t :=
  congrArg Host.Outcome.next ((live_running hheld).trans (oneEvent_silent h ht))

/-! ### A tick at the Event Unit (R169) -/

section
variable {u : EventUnit} {timeout n : Nat}

/-- A stopped timer does not rise. -/
theorem EventUnit.tick_stopped (h : u.timer = none) : u.tick timeout = u := by
  simp only [EventUnit.tick, h]

/-- A running timer rises before the *report timeout*. -/
theorem EventUnit.tick_rises (h : u.timer = some n) (hbefore : n + 1 < timeout) :
    u.tick timeout = { u with timer := some (n + 1) } := by
  simp only [EventUnit.tick, h, if_neg (Nat.not_le.2 hbefore)]

theorem EventUnit.tick_timedOut (h : u.timer = some n) (hreached : timeout ≤ n + 1) : u.tick timeout = u.timedOut := by
  simp only [EventUnit.tick, h, if_pos hreached]

theorem EventUnit.timesOut_eq_true : u.timesOut timeout = true ↔ ∃ n, u.timer = some n ∧ timeout ≤ n + 1 := by
  unfold EventUnit.timesOut
  cases u.timer <;> simp

/-- A timeout with a retry left resends the present report. -/
theorem EventUnit.timedOut_resent (h : 0 < u.retriesLeft) : u.timedOut =
    { u with retriesLeft := u.retriesLeft - 1, timer := none, store := resendOf u.present } := if_pos h

/-- A timeout with no retry left. -/
theorem EventUnit.timedOut_down (h : u.retriesLeft = 0) :
    u.timedOut = { u with timer := none, reportState := .down, store := none } := if_neg (by omega)

end

section
variable {s : State} {u : EventUnit}

theorem exec_eventUnitTick (hheld : s.resetHeld = false) (hticks : 0 < s.handover.eventTicks)
    (h : s.events.tick s.settings.reportTimeout = u) :
    exec .eventUnitTick s =
      .next { s with events := u, handover := { s.handover with eventTicks := s.handover.eventTicks - 1 } } := by
  subst h
  exact live_silent hheld (if_neg (Nat.ne_of_gt hticks)) rfl

/-- A tick that brings the timeout is taken by the row of the timeout as by the row of the tick (log entry 3). -/
theorem exec_reportTimeout (hheld : s.resetHeld = false) (hticks : 0 < s.handover.eventTicks)
    (hdue : s.events.timesOut s.settings.reportTimeout = true) (h : s.events.tick s.settings.reportTimeout = u) :
    exec .reportTimeout s =
      .next { s with events := u, handover := { s.handover with eventTicks := s.handover.eventTicks - 1 } } := by
  subst h
  exact live_silent hheld ((if_neg (Nat.ne_of_gt hticks)).trans (if_pos hdue)) rfl

/-- A tick that brings no timeout is left to the row of the tick (log entry 3). -/
theorem exec_reportTimeout_notDue (h : ¬ s.events.timesOut s.settings.reportTimeout = true) :
    exec .reportTimeout s = .next s := by
  refine live_unchanged (f := State.takeTimeout) ?_
  have hnot : ¬ s.unflagged.events.timesOut s.unflagged.settings.reportTimeout = true := h
  rw [State.takeTimeout, if_neg hnot, ite_self]

end

/-- Settles O27: by the timer and the retries left; both rows take the tick with the one meaning `EventUnit.tick`. -/
theorem reportTimer : Obligations.ReportTimer := by
  intro s hheld hticks ticked
  have due : s.events.timesOut s.settings.reportTimeout = true ↔
      ∃ n, s.events.timer = some n ∧ s.settings.reportTimeout ≤ n + 1 := EventUnit.timesOut_eq_true
  have timeout {n : Nat} {u : EventUnit} (hn : s.events.timer = some n) (hreached : s.settings.reportTimeout ≤ n + 1)
      (h : s.events.timedOut = u) :
      exec .eventUnitTick s = .next (ticked u) ∧ exec .reportTimeout s = .next (ticked u) :=
    have htick := (EventUnit.tick_timedOut hn hreached).trans h
    ⟨exec_eventUnitTick hheld hticks htick, exec_reportTimeout hheld hticks (due.2 ⟨n, hn, hreached⟩) htick⟩
  refine ⟨fun hstopped => ⟨exec_eventUnitTick hheld hticks (EventUnit.tick_stopped hstopped), exec_reportTimeout_notDue ?stopped⟩,
    fun n hn => ⟨fun hbefore => ⟨exec_eventUnitTick hheld hticks (EventUnit.tick_rises hn hbefore), exec_reportTimeout_notDue ?before⟩,
      fun hreached hretries => timeout hn hreached (EventUnit.timedOut_resent hretries),
      fun hreached hretries => timeout hn hreached (EventUnit.timedOut_down hretries)⟩⟩
  case stopped => simp [due, hstopped]
  case before => simp [due, hn, hbefore]

/-! ### The setting of a flag (R162, R170) -/

/-- R180: a flag set holds a flag where the flag's bit is in it. -/
theorem hasFlag_eq_true {x : BitVec 14} {f : EventFlag} : hasFlag x f = true ↔ x &&& flagBit f ≠ 0 := by
  have hbit : flagBit f = BitVec.twoPow 14 (flagNumber f) := rfl
  have hne : flagBit f ≠ 0 := by cases f <;> decide
  rw [hasFlag, hbit, BitVec.and_twoPow, ← hbit]
  split <;> simp_all

/-- The occurrence that is taken is the oldest of its flag; the others keep their order. -/
theorem takeFirst_append {α : Type} [DecidableEq α] {x : α} {before : List α} (after : List α) (h : x ∉ before) :
    takeFirst x (before ++ x :: after) = some (before ++ after) := by
  rw [takeFirst, if_pos List.mem_append_cons_self, List.erase_append_right _ h, List.erase_cons_head]

theorem State.setFlag_taken {s : State} {f : EventFlag} {rest : List EventFlag} (h : takeFirst f s.handover.flags = some rest) :
    s.setFlag f = { s with events := s.events.occurrence f, handover := { s.handover with flags := rest } } := by
  rw [State.setFlag, h]

/-- Settles O28: the oldest occurrence of the flag is taken, and `EventUnit.occurrence` says what it sets. -/
theorem flagSetting : Obligations.FlagSetting := by
  intro s f before after hheld hflags hbefore bit
  have htaken : takeFirst f s.handover.flags = some (before ++ after) := by rw [hflags, takeFirst_append after hbefore]
  have hrenewed : (s.events.occurrence f).renewed =
      if s.events.reportState ≠ .idle ∧ s.events.carried &&& bit ≠ 0 then s.events.renewed ||| bit else s.events.renewed :=
    if_congr (and_congr_right' hasFlag_eq_true) rfl rfl
  rw [← hrenewed]
  exact congrArg Host.Outcome.next ((if_neg (by simp [hheld])).trans (State.setFlag_taken htaken))

/-! ### The build, the issue and the sending of a report (R165 to R168) -/

section
variable {s : State}

theorem State.buildDue_eq_true :
    s.buildDue = true ↔ s.events.reportState = .idle ∧ s.events.flags &&& s.settings.reportMask ≠ 0 := by
  rw [State.buildDue, Bool.and_eq_true, decide_eq_true_iff, decide_eq_true_iff, reportable]

theorem State.buildReport_due {target : BitVec 6} (htarget : s.settings.reportTarget = some target) (hdue : s.buildDue = true) :
    s.buildReport = { s with events := { s.events with
      number := s.events.number + 1
      carried := s.events.flags &&& s.settings.reportMask
      renewed := 0
      retriesLeft := s.settings.reportRetries
      timer := none
      store := some (s.reportCell target)
      present := some (s.reportCell target)
      reportState := .outstanding } } := by
  simp only [State.buildReport, htarget, if_pos hdue, reportable]

/-- R165: no build without a target, in another state than IDLE, or with no flag to carry. -/
theorem State.buildReport_unchanged (h : s.settings.reportTarget = none ∨ ¬ s.buildDue = true) : s.buildReport = s := by
  unfold State.buildReport
  split
  · rfl
  · next htarget => exact if_neg (h.resolve_left (by simp [htarget]))

theorem State.issueReport_unchanged (h : s.events.store = none ∨ 8 ≤ s.engine.egress.length) : s.issueReport = s := by
  unfold State.issueReport
  split
  · rfl
  · next hstore =>
    have hfull := h.resolve_left (by simp [hstore])
    exact if_neg (by simpa [State.egressRoom] using hfull)

theorem State.issueReport_room {c : ControlCell} (hstore : s.events.store = some c) (hroom : s.engine.egress.length < 8) :
    s.issueReport = ({ s with events := { s.events with store := none } } : State).joinEgress
      { cell := c, producer := .report, mark := none } := by
  have hfree : s.egressRoom = true := decide_eq_true hroom
  simp only [State.issueReport, hstore, if_pos hfree]

/-- R168: the oldest completion is taken, whatever it comes to at the Event Unit. -/
theorem exec_reportSendingComplete {n : Byte} {later : List Byte} {u : EventUnit} (hheld : s.resetHeld = false)
    (hsent : s.handover.reportsSent = n :: later) (h : s.events.sendingComplete n = u) :
    exec .reportSendingComplete s = .next { s with events := u, handover := { s.handover with reportsSent := later } } := by
  subst h
  refine live_silent (f := State.sendingComplete) hheld ?_ rfl
  have hsent' : s.unflagged.handover.reportsSent = n :: later := hsent
  rw [State.sendingComplete, hsent']
  rfl

end

/-- Settles O29: a build, an issue and a completion, each by what its function asks for. -/
theorem reportBuildAndIssue : Obligations.ReportBuildAndIssue := by
  intro s hheld carried
  refine ⟨fun hnot => live_unchanged (State.buildReport_unchanged (s := s.unflagged) ?notDue),
    fun target htarget hidle hcarried => live_silent hheld
      (State.buildReport_due (s := s.unflagged) htarget (State.buildDue_eq_true.2 ⟨hidle, hcarried⟩)) rfl,
    fun hstore => live_unchanged (State.issueReport_unchanged (s := s.unflagged) (.inl hstore)),
    fun c hstore hroom => live_silent hheld (State.issueReport_room (s := s.unflagged) hstore hroom) rfl,
    fun c _ hfull => live_unchanged (State.issueReport_unchanged (s := s.unflagged) (.inr hfull)),
    fun n later hsent => ⟨fun hout hnumber => exec_reportSendingComplete hheld hsent (if_pos ⟨hout, hnumber⟩),
      fun hother => exec_reportSendingComplete hheld hsent (if_neg ?other)⟩⟩
  case notDue =>
    refine hnot.imp_right fun h hdue => ?_
    obtain ⟨hidle, hcarried⟩ := State.buildDue_eq_true.1 hdue
    exact h.elim (fun hbusy => hbusy hidle) hcarried
  case other => exact fun ⟨hout, hnumber⟩ => hother.elim (fun h => h hout) (fun h => h hnumber)

end Sys2Proof.Machine
end

section
/-! PROOF. The commands of the Event Unit, accepted: EVENT-READ, EVENT-CLEAR, REPORT-ACK and REPORT-REARM (R171 to R174). -/

namespace Sys2Proof.Machine

-- One proof body at a time: each thread reserves memory, and the whole text as one file comes close to the limit of the check.
set_option Elab.async false

/-! ### EVENT-READ and EVENT-CLEAR (R173, R174) -/

/-- Section 10.5: word 3 of EVENT-READ as a number. -/
theorem storeTimerBits_eq (store timer : Bool) : 0#30 ++ BitVec.ofBool store ++ BitVec.ofBool timer =
    (if store then 2#32 else 0#32) + if timer then 1#32 else 0#32 := by
  cases store <;> cases timer <;> rfl

section
variable {s : State} {c : Control} {i : Fin 4}

theorem ownEventClear_badParam (h : 2 ^ 14 ≤ (c.word 0).toNat) : ownEventClear c i s = Done.same s { status := .badParam } := if_pos h

theorem ownEventClear_cleared (h : (c.word 0).toNat < 2 ^ 14) : ownEventClear c i s =
    { state := { s with events := { s.events with flags := s.events.flags &&& ~~~((c.word 0).setWidth 14) } }
      reply := flagSetsReply 0 s.events.flags (s.events.flags &&& ~~~((c.word 0).setWidth 14)) } := if_neg (Nat.not_le.2 h)

end

/-- Settles O51: EVENT-READ changes nothing, and EVENT-CLEAR goes by the range of its flag set. -/
theorem eventReadAndClear : Obligations.EventReadAndClear := by
  intro s c rest i x hacc answers u
  refine ⟨fun hop => congrArg Host.Outcome.next (live_accepted_same (claim := noClaim) (own := ownEventRead) hacc hop nofun ?read),
    fun hop hbig => congrArg Host.Outcome.next
      (live_accepted_same (claim := noClaim) hacc hop nofun (ownEventClear_badParam hbig)),
    fun hop hsmall => congrArg Host.Outcome.next
      (live_accepted (t := { s with events := { u with flags := u.flags &&& ~~~((c.word 0).setWidth 14) } }) (claim := noClaim)
        hacc hop nofun rfl (ownEventClear_cleared hsmall))⟩
  case read =>
    have hwords : (s.unflagged.begun c rest i x).eventWords = s.eventWords := rfl
    rw [ownEventRead, hwords, State.eventWords, storeTimerBits_eq]
    cases s.events.timer <;> rfl

/-! ### REPORT-ACK and REPORT-REARM (R171, R172) -/

/-- R171, R172: an accepted command comes from the *report target* where its session's manager is that node. -/
theorem State.begun_isTarget {s : State} {c : Control} {rest : List ControlCell} {i : Fin 4} {x : Session}
    (h : s.sess.entries.get i = some x) :
    (s.begun c rest i x).isTarget i = true ↔ s.settings.reportTarget = some x.manager := by
  have hmanager : (s.begun c rest i x).managerOf i = some x.manager := by
    rw [State.begun_managerOf h, State.managerOf, h]
    rfl
  have hsettings : (s.begun c rest i x).settings = s.settings := rfl
  rw [State.isTarget, hmanager, hsettings]
  cases s.settings.reportTarget <;> simp [eq_comm]

section
variable {s : State} {c : Control} {i : Fin 4}

theorem ownReportAck_notTarget (h : ¬ s.isTarget i = true) : ownReportAck c i s = Done.same s { status := .notTarget } :=
  if_pos (by simpa using h)

/-- R171: the number of a present or past report is one byte. -/
theorem ownReportAck_badParam (htarget : s.isTarget i = true) (h : 255 < c.index.toNat) :
    ownReportAck c i s = Done.same s { status := .badParam } :=
  (if_neg (by simp [htarget])).trans (if_pos h)

theorem ownReportAck_stale (htarget : s.isTarget i = true) (h : c.index.toNat ≤ 255)
    (hnumber : c.index.toNat ≠ s.events.number.toNat) :
    ownReportAck c i s = Done.same s (Reply.word0 .stale s.events.staleWord) :=
  ((if_neg (by simp [htarget])).trans (if_neg (Nat.not_lt.2 h))).trans (if_pos hnumber)

/-- The report that INDEX names is the last one built. -/
theorem ownReportAck_current (htarget : s.isTarget i = true) (hnumber : c.index.toNat = s.events.number.toNat) :
    ownReportAck c i s =
      if s.events.reportState = .idle then Done.same s { status := .ok, arg := detailNoneOutstanding }
      else
        { state := { s with events := s.events.acknowledge s.settings.reportRetries }
          reply := flagSetsReply detailCleared s.events.acknowledged (s.events.flags &&& ~~~s.events.acknowledged) } := by
  have hbyte : ¬ 255 < c.index.toNat := by have := s.events.number.isLt; omega
  exact ((if_neg (by simp [htarget])).trans (if_neg hbyte)).trans (if_neg (not_not_intro hnumber))

theorem ownReportRearm_notTarget (h : ¬ s.isTarget i = true) : ownReportRearm c i s = Done.same s { status := .notTarget } :=
  if_pos (by simpa using h)

theorem ownReportRearm_target (htarget : s.isTarget i = true) :
    ownReportRearm c i s =
      if s.events.reportState = .down then
        { state := { s with events := s.events.toIdle s.settings.reportRetries }
          reply := { status := .ok, arg := detailRearmed } }
      else Done.same s { status := .ok, arg := detailNoneDown } := if_neg (by simp [htarget])

end

/-- Settles O52: by the sender, then by the number named and the report's state. -/
theorem reportAckAndRearm : Obligations.ReportAckAndRearm := by
  intro s c rest i x hacc answers u target ended cleared ack rearm
  have hsender : (s.unflagged.begun c rest i x).isTarget i = true ↔ target := State.begun_isTarget (s := s.unflagged) hacc.entry
  have ackSame (hack : ack) {r : Reply} (hown : ownReportAck c i (s.unflagged.begun c rest i x) = Done.same _ r) :
      answers .reportAck s r := congrArg Host.Outcome.next (live_accepted_same (claim := noClaim) hacc hack nofun hown)
  have rearmSame (hrearm : rearm) {r : Reply} (hown : ownReportRearm c i (s.unflagged.begun c rest i x) = Done.same _ r) :
      answers .reportRearm s r := congrArg Host.Outcome.next (live_accepted_same (claim := noClaim) hacc hrearm nofun hown)
  refine ⟨fun hop hnot => ackSame hop (ownReportAck_notTarget (mt hsender.1 hnot)),
    fun hop htarget hbig => ackSame hop (ownReportAck_badParam (hsender.2 htarget) hbig),
    fun hop htarget hbyte hnumber => ackSame hop (ownReportAck_stale (hsender.2 htarget) hbyte hnumber),
    fun hop htarget hnumber hidle =>
      ackSame hop ((ownReportAck_current (hsender.2 htarget) hnumber).trans (if_pos hidle)),
    fun hop htarget hnumber hbusy => congrArg Host.Outcome.next
      (live_accepted (t := ended (u.flags &&& ~~~cleared)) (claim := noClaim) hacc hop nofun rfl
        ((ownReportAck_current (hsender.2 htarget) hnumber).trans (if_neg hbusy))),
    fun hop hnot => rearmSame hop (ownReportRearm_notTarget (mt hsender.1 hnot)),
    fun hop htarget hdown => congrArg Host.Outcome.next
      (live_accepted (t := ended u.flags) (claim := noClaim) hacc hop nofun rfl
        ((ownReportRearm_target (hsender.2 htarget)).trans (if_pos hdown))),
    fun hop htarget hup => rearmSame hop ((ownReportRearm_target (hsender.2 htarget)).trans (if_neg hup))⟩

end Sys2Proof.Machine
end

section
/-! PROOF. The records of section 10.4: the fields of a DATA quantity, the codes of R180 both ways, and what a record reads back as. -/

namespace Sys2Proof.Machine

-- One proof body at a time: each thread reserves memory, and the whole text as one file comes close to the limit of the check.
set_option Elab.async false

/-! ### The fields of DATA (R179) -/

/-- A field of DATA word `n` as a number, counted as section 10.4 counts: `len` bits from bit `lo` up. -/
def dataBits (d : BitVec 128) (n lo len : Nat) : Nat := (d.extractLsb' ((3 - n) * 32 + lo) len).toNat

/-- R179: a field within a word lies at that word's place in DATA. -/
theorem field_extract (d : BitVec 128) {k lo len : Nat} (h : lo + len ≤ 32) :
    field (d.extractLsb' k 32) lo len = d.extractLsb' (k + lo) len := by
  ext j hj
  simp [field, Nat.add_assoc, show lo + j < 32 by omega]

theorem field_word_toNat (c : Control) {n lo len : Nat} (h : lo + len ≤ 32) :
    (field (c.word n) lo len).toNat = dataBits c.data n lo len := congrArg BitVec.toNat (field_extract c.data h)

section
variable {w0 w1 w2 w3 : Word}

/-- R179: DATA is made of its four words, word 0 first. -/
theorem extract_dataWords :
    (dataWords w0 w1 w2 w3).extractLsb' 96 32 = w0 ∧ (dataWords w0 w1 w2 w3).extractLsb' 64 32 = w1
      ∧ (dataWords w0 w1 w2 w3).extractLsb' 32 32 = w2 ∧ (dataWords w0 w1 w2 w3).extractLsb' 0 32 = w3 := by
  simp only [dataWords]
  simp (disch := decide) only [BitVec.extractLsb'_append_eq_of_le, BitVec.extractLsb'_append_eq_of_add_le, BitVec.extractLsb'_eq_self,
    Nat.reduceSub, and_self]

/-- A command that carries four words has them as its DATA words. -/
theorem word_of_dataWords {c : Control} (h : c.data = dataWords w0 w1 w2 w3) :
    c.word 0 = w0 ∧ c.word 1 = w1 ∧ c.word 2 = w2 ∧ c.word 3 = w3 := by
  simp only [Control.word, h]
  exact extract_dataWords

/-- A field of a reply's DATA is that field of the word it stands in. -/
theorem dataBits_dataWords {lo len : Nat} (h : lo + len ≤ 32) :
    dataBits (dataWords w0 w1 w2 w3) 0 lo len = (field w0 lo len).toNat
      ∧ dataBits (dataWords w0 w1 w2 w3) 1 lo len = (field w1 lo len).toNat
      ∧ dataBits (dataWords w0 w1 w2 w3) 2 lo len = (field w2 lo len).toNat
      ∧ dataBits (dataWords w0 w1 w2 w3) 3 lo len = (field w3 lo len).toNat := by
  obtain ⟨h0, h1, h2, h3⟩ := extract_dataWords (w0 := w0) (w1 := w1) (w2 := w2) (w3 := w3)
  simp only [dataBits, ← field_extract _ h, Nat.reduceSub, Nat.reduceMul, h0, h1, h2, h3, and_self]

end

/-! ### The codes (R180) -/

/-- A number that fits its field is read back. -/
theorem toNat_ofNat_lt {w n : Nat} (h : n < 2 ^ w) : (BitVec.ofNat w n).toNat = n := by
  rw [BitVec.toNat_ofNat, Nat.mod_eq_of_lt h]

theorem decodeYesNo_yesNo (b : Bool) : decodeYesNo (yesNo b) = some b := by cases b <;> rfl

theorem decodeYesNo_eq_none {x : Byte} : decodeYesNo x = none ↔ 1 < x.toNat := by
  unfold decodeYesNo
  split
  · next h => simp [h]
  · next h => simp [h]
  · simp only [true_iff]
    grind

theorem decodeAction_actionField (a : Action) : decodeAction (actionField a) = some a := by cases a <;> rfl

theorem decodeAction_eq_none {x : Byte} : decodeAction x = none ↔ 3 < x.toNat := by
  unfold decodeAction
  split
  · next h => simp [h]
  · next h => simp [h]
  · next h => simp [h]
  · next h => simp [h]
  · simp only [true_iff]
    grind

theorem decodeOnExceed_onExceedField (x : OnExceed) : decodeOnExceed (onExceedField x) = some x := by cases x <;> rfl

theorem decodeOnExceed_eq_none {x : Byte} : decodeOnExceed x = none ↔ 1 < x.toNat := by
  unfold decodeOnExceed
  split
  · next h => simp [h]
  · next h => simp [h]
  · simp only [true_iff]
    grind

theorem decodeQueue_eq_none {x : Nat} : decodeQueue x = none ↔ 7 < x := by
  refine ⟨fun h => ?_, decodeQueue_none⟩
  by_contra hle
  exact absurd ((decodeQueue_eq_some (q := ⟨x, by omega⟩)).2 rfl) (by simp [h])

theorem decodeQueue_byte (q : Fin 8) : decodeQueue (BitVec.ofNat 8 q.val).toNat = some q :=
  decodeQueue_eq_some.2 (toNat_ofNat_lt (by omega))

theorem decodeMeter_meterField (m : Option (Fin 128)) : decodeMeter (meterField m) = some m := by
  cases m with
  | none => rfl
  | some m =>
    have hm : (BitVec.ofNat 8 m.val).toNat = m.val := toNat_ofNat_lt (by omega)
    simp [decodeMeter, meterField, hm]

/-- R180: of the codes that name no meter, 255 alone says that there is none. -/
theorem decodeMeter_eq_none {x : Byte} : decodeMeter x = none ↔ 0x80 ≤ x.toNat ∧ x.toNat ≤ 0xFE := by
  have hx := x.isLt
  have hnone : x = 0xFF#8 ↔ x.toNat = 255 := BitVec.toNat_inj.symm
  simp only [decodeMeter, hnone]
  split_ifs <;> simp only [false_iff, true_iff] <;> omega

theorem decodeHop_byte {hop : BitVec 4} (h : hop ≠ 0) : decodeHop (hop.setWidth 8).toNat = some hop := by
  have hlow : hop.toNat ≠ 0 := fun hz => h (BitVec.eq_of_toNat_eq hz)
  have hhop : (hop.setWidth 8).toNat = hop.toNat := by rw [BitVec.toNat_setWidth]; omega
  rw [hhop, decodeHop, if_pos (by omega), BitVec.ofNat_toNat, BitVec.setWidth_eq]

theorem decodeHop_eq_none {x : Nat} : decodeHop x = none ↔ x = 0 ∨ 15 < x := by
  unfold decodeHop
  split
  · simp only [reduceCtorEq, false_iff]
    omega
  · simp only [true_iff]
    omega

theorem decodeAmount_eq (x : BitVec 16) : decodeAmount x = if x.toNat = 0 then none else some x.toNat := by
  have hzero : x = 0 ↔ x.toNat = 0 := BitVec.toNat_inj.symm
  simp only [decodeAmount, hzero]

theorem decodeAmount_ofNat {n : Nat} (h : 1 ≤ n ∧ n ≤ 65535) : decodeAmount (BitVec.ofNat 16 n) = some n := by
  rw [decodeAmount_eq, toNat_ofNat_lt (by omega), if_neg (by omega)]

theorem decodeAmount_eq_none {x : BitVec 16} : decodeAmount x = none ↔ x.toNat = 0 := by simp [decodeAmount_eq]

theorem decodeDivider_eq_none {n : Nat} : decodeDivider n = none ↔ n ≠ 1 ∧ n ≠ 8 ∧ n ≠ 64 ∧ n ≠ 512 := by
  unfold decodeDivider
  split
  · simp
  · simp
  · simp
  · simp
  · simp only [true_iff]
    grind

theorem decodeSource_source (x : Source) : decodeSource (sourceKind x) (sourceParameter x) = some x := by
  cases x with
  | slots d => cases d <;> rfl
  | mark l => rfl
  | cascade m =>
    have hm : (BitVec.ofNat 12 m.val).toNat = m.val := toNat_ofNat_lt (by omega)
    simp [decodeSource, sourceKind, sourceParameter, hm]

/-- R40: what a parameter may be goes by the kind of the source. -/
theorem decodeSource_eq_none {kind : BitVec 2} {parameter : BitVec 12} : decodeSource kind parameter = none ↔
    kind.toNat = 3
      ∨ (kind.toNat = 0 ∧ parameter.toNat ≠ 1 ∧ parameter.toNat ≠ 8 ∧ parameter.toNat ≠ 64 ∧ parameter.toNat ≠ 512)
      ∨ (kind.toNat = 2 ∧ 127 < parameter.toNat) := by
  have hkind := kind.isLt
  unfold decodeSource
  split
  · next h => simp [h, decodeDivider_eq_none]
  · next h => simp [h]
  · next h =>
    have hbig : 128 ≤ parameter.toNat ↔ 127 < parameter.toNat := Nat.succ_le_iff
    simp [h, hbig]
  · simp only [true_iff]
    grind

/-- Section 10.4: a calendar entry byte is read back. -/
theorem decodeCalEntry_calEntryByte (e : CalEntry) : decodeCalEntry (calEntryByte e) = some e := by
  obtain ⟨kind, q⟩ := e
  have hkind : (calEntryByte { kind := kind, queue := q }).extractLsb' 6 2 = slotKindCode kind := by
    simp (disch := decide) only [calEntryByte, BitVec.extractLsb'_append_eq_of_le, BitVec.extractLsb'_eq_self, Nat.reduceSub]
  have hqueue : (calEntryByte { kind := kind, queue := q }).extractLsb' 0 3 = BitVec.ofNat 3 q.val := BitVec.extractLsb'_append_eq_right
  have hq : Fin.ofNat 8 (BitVec.ofNat 3 q.val).toNat = q := by
    rw [toNat_ofNat_lt (by omega)]
    exact Fin.ofNat_val_eq_self q
  simp only [decodeCalEntry, hkind, hqueue, hq]
  cases kind <;> rfl

/-- Section 10.4: the ill-coded bytes are those with 0 in bits 7..6. -/
theorem decodeCalEntry_none_iff {b : Byte} : decodeCalEntry b = none ↔ b.toNat < 64 := by
  have hb := b.isLt
  rw [decodeCalEntry_eq_none, ← BitVec.toNat_inj, BitVec.extractLsb'_toNat, Nat.shiftRight_eq_div_pow]
  simp only [BitVec.ofNat_eq_ofNat, BitVec.toNat_ofNat]
  omega

/-! ### The records read back -/

section
variable {c : Control}

theorem streamFields_of_record {e : StreamEntry} (h : c.data = streamRecord e) (hhop : e.addHop ≠ 0) : streamFields c =
    { label := e.label, action := some e.action, queue := some e.queue, meter := some e.meter, onExceed := some e.onExceed
      addAllowed := some e.addAllowed, addHop := some e.addHop } := by
  obtain ⟨h0, h1, h2, -⟩ := word_of_dataWords h
  simp only [streamFields, h0, h1, h2, field]
  simp (disch := decide) only [BitVec.extractLsb'_append_eq_of_le, BitVec.extractLsb'_append_eq_of_add_le, BitVec.extractLsb'_eq_self,
    Nat.reduceSub, decodeAction_actionField, decodeQueue_byte, decodeMeter_meterField, decodeOnExceed_onExceedField,
    decodeYesNo_yesNo, decodeHop_byte hhop]

theorem meterFields_of_record {m : Meter} (h : c.data = meterRecord m) (hm : m.InRange) : meterFields c =
    { limit := some m.limit, increment := some m.increment, period := some m.period, source := some m.source
      partner := some m.partner } := by
  obtain ⟨h0, h1, h2, -⟩ := word_of_dataWords h
  obtain ⟨hlimit, hincrement, hperiod⟩ := hm
  simp only [meterFields, h0, h1, h2, field]
  simp (disch := decide) only [BitVec.extractLsb'_append_eq_of_le, BitVec.extractLsb'_append_eq_of_add_le, BitVec.extractLsb'_eq_self,
    Nat.reduceSub, decodeAmount_ofNat hlimit, decodeAmount_ofNat hincrement, decodeAmount_ofNat hperiod, decodeSource_source,
    decodeMeter_meterField]

theorem queueFields_of_record {limit deThreshold depth : Nat} {fill : Bool} {w : Word} (hlimit : limit ≤ 512)
    (hde : deThreshold ≤ 512) (h : c.data = queueRecord limit deThreshold fill depth w) :
    queueFields c = { limit := limit, deThreshold := deThreshold, fill := some fill } := by
  obtain ⟨h0, h1, -, -⟩ := word_of_dataWords h
  simp only [queueFields, h0, h1, field]
  simp (disch := decide) only [BitVec.extractLsb'_append_eq_of_le, BitVec.extractLsb'_append_eq_of_add_le, BitVec.extractLsb'_eq_self,
    Nat.reduceSub, decodeYesNo_yesNo, toNat_ofNat_lt (by omega : limit < 2 ^ 16),
    toNat_ofNat_lt (by omega : deThreshold < 2 ^ 16)]

end

/-! ### The fields that stand in a reply alone -/

/-- Section 10.4: the fields of a stream entry that STREAM-READ shows beside the configured ones, and the unused bits. -/
theorem dataBits_streamRecord {e : StreamEntry} (hqueued : e.queued ≤ 512) :
    dataBits (streamRecord e) 0 28 4 = 0
      ∧ dataBits (streamRecord e) 0 8 8 = (entryStateCode e.state).toNat
      ∧ dataBits (streamRecord e) 2 16 8 = (yesNo e.purge).toNat
      ∧ dataBits (streamRecord e) 2 0 16 = e.queued
      ∧ dataBits (streamRecord e) 3 0 32 = 0 := by
  simp (disch := decide) only [streamRecord, dataBits_dataWords, field]
  simp (disch := decide) only [BitVec.extractLsb'_append_eq_of_le, BitVec.extractLsb'_append_eq_of_add_le, BitVec.extractLsb'_eq_self,
    Nat.reduceSub, toNat_ofNat_lt (by omega : e.queued < 2 ^ 16), BitVec.ofNat_eq_ofNat, BitVec.toNat_zero, and_self]

/-- Section 10.4: the live fields of a meter, its run state and its named count, and the unused bits. -/
theorem dataBits_meterRecord {m : Meter} (hcredit : m.credit ≤ 65535) (hcounter : m.counter ≤ 65535) (hnamed : m.named ≤ 127) :
    dataBits (meterRecord m) 1 0 16 = m.counter
      ∧ dataBits (meterRecord m) 2 28 2 = 0
      ∧ dataBits (meterRecord m) 2 0 8 = (yesNo (!m.running)).toNat
      ∧ dataBits (meterRecord m) 3 16 16 = m.credit
      ∧ dataBits (meterRecord m) 3 0 16 = m.named := by
  simp (disch := decide) only [meterRecord, dataBits_dataWords, field]
  simp (disch := decide) only [BitVec.extractLsb'_append_eq_of_le, BitVec.extractLsb'_append_eq_of_add_le, BitVec.extractLsb'_eq_self,
    Nat.reduceSub, toNat_ofNat_lt (by omega : m.counter < 2 ^ 16),
    toNat_ofNat_lt (by omega : m.credit < 2 ^ 16), toNat_ofNat_lt (by omega : m.named < 2 ^ 16), BitVec.toNat_zero, and_self]

/-- Section 10.4: the depth of a queue and its last words, and the unused bits. -/
theorem dataBits_queueRecord {depth : Nat} (limit deThreshold : Nat) (fill : Bool) (w : Word) (hdepth : depth ≤ 512) :
    dataBits (queueRecord limit deThreshold fill depth w) 1 16 8 = 0
      ∧ dataBits (queueRecord limit deThreshold fill depth w) 1 0 16 = depth
      ∧ dataBits (queueRecord limit deThreshold fill depth w) 2 0 32 = w.toNat
      ∧ dataBits (queueRecord limit deThreshold fill depth w) 3 0 32 = 0 := by
  simp (disch := decide) only [queueRecord, dataBits_dataWords, field]
  simp (disch := decide) only [BitVec.extractLsb'_append_eq_of_le, BitVec.extractLsb'_append_eq_of_add_le, BitVec.extractLsb'_eq_self,
    Nat.reduceSub, toNat_ofNat_lt (by omega : depth < 2 ^ 16), BitVec.ofNat_eq_ofNat, BitVec.toNat_zero, and_self]

/-! ### The fields that are refused (R19, R40, R66, R180) -/

section
variable (c : Control)

theorem streamFields_eq_none :
    ((streamFields c).action = none ↔ 3 < dataBits c.data 0 0 8)
      ∧ ((streamFields c).queue = none ↔ 7 < dataBits c.data 1 24 8)
      ∧ ((streamFields c).meter = none ↔ 0x80 ≤ dataBits c.data 1 16 8 ∧ dataBits c.data 1 16 8 ≤ 0xFE)
      ∧ ((streamFields c).onExceed = none ↔ 1 < dataBits c.data 1 8 8)
      ∧ ((streamFields c).addAllowed = none ↔ 1 < dataBits c.data 1 0 8)
      ∧ ((streamFields c).addHop = none ↔ dataBits c.data 2 24 8 = 0 ∨ 15 < dataBits c.data 2 24 8) := by
  simp (disch := decide) only [streamFields, decodeAction_eq_none, decodeQueue_eq_none, decodeMeter_eq_none, decodeOnExceed_eq_none,
    decodeYesNo_eq_none, decodeHop_eq_none, field_word_toNat, and_self]

theorem meterFields_eq_none :
    ((meterFields c).limit = none ↔ dataBits c.data 0 16 16 = 0)
      ∧ ((meterFields c).increment = none ↔ dataBits c.data 0 0 16 = 0)
      ∧ ((meterFields c).period = none ↔ dataBits c.data 1 16 16 = 0)
      ∧ ((meterFields c).source = none ↔ dataBits c.data 2 30 2 = 3
          ∨ (dataBits c.data 2 30 2 = 0 ∧ dataBits c.data 2 16 12 ≠ 1 ∧ dataBits c.data 2 16 12 ≠ 8
              ∧ dataBits c.data 2 16 12 ≠ 64 ∧ dataBits c.data 2 16 12 ≠ 512)
          ∨ (dataBits c.data 2 30 2 = 2 ∧ 127 < dataBits c.data 2 16 12))
      ∧ ((meterFields c).partner = none ↔ 0x80 ≤ dataBits c.data 2 8 8 ∧ dataBits c.data 2 8 8 ≤ 0xFE) := by
  simp (disch := decide) only [meterFields, decodeAmount_eq_none, decodeSource_eq_none, decodeMeter_eq_none, field_word_toNat, and_self]

theorem queueFields_eq_none : (queueFields c).fill = none ↔ 1 < dataBits c.data 1 24 8 := by
  simp (disch := decide) only [queueFields, decodeYesNo_eq_none, field_word_toNat]

end

/-- Settles O54: the records are read word by word, and each field by its code, which is read back both ways. -/
theorem recordsReadBack : Obligations.RecordsReadBack := by
  refine ⟨fun c e h hhop => ?stream, fun c m h hm => ?meter, fun c limit deThreshold depth fill w hlimit hde h => ?queue,
    decodeCalEntry_calEntryByte, fun e hqueued => ?streamReply, fun m hcredit hcounter hnamed => ?meterReply,
    fun limit deThreshold depth fill w hdepth => dataBits_queueRecord limit deThreshold fill w hdepth, streamFields_eq_none,
    meterFields_eq_none, queueFields_eq_none, fun b => decodeCalEntry_none_iff⟩
  case stream =>
    rw [streamFields_of_record h hhop]
    exact ⟨rfl, rfl, rfl, rfl, rfl, rfl, rfl⟩
  case meter =>
    rw [meterFields_of_record h hm]
    exact ⟨rfl, rfl, rfl, rfl, rfl⟩
  case queue =>
    rw [queueFields_of_record hlimit hde h]
    exact ⟨rfl, rfl, rfl⟩
  case streamReply =>
    obtain ⟨hunused, hstate, hpurge, hcells, hlast⟩ := dataBits_streamRecord hqueued
    exact ⟨hunused, hstate.trans (by cases e.state <;> rfl), hpurge.trans (by cases e.purge <;> rfl), hcells, hlast⟩
  case meterReply =>
    obtain ⟨hcount, hunused, hrunning, hlive, hcited⟩ := dataBits_meterRecord hcredit hcounter hnamed
    exact ⟨hcount, hunused, hrunning.trans (by cases m.running <;> rfl), hlive, hcited⟩

end Sys2Proof.Machine
end

section
/-! PROOF. Every command answers a next state and leaves the queue of waiting commands as it was; and a step on an empty queue (R183). -/

namespace Sys2Proof.Machine

-- One proof body at a time: each thread reserves memory, and the whole text as one file comes close to the limit of the check.
set_option Elab.async false

/-- An operation that leaves the queue of waiting commands as it was. -/
def KeepsPending (f : State → State) : Prop := ∀ s : State, (f s).pending = s.pending

namespace KeepsPending

/-- R162: an event is run apart from the flags handed over before it, and a held part takes none; neither reaches the queue. -/
theorem live {f : State → State} (hf : KeepsPending f) : KeepsPending (live f) := fun s => by
  cases hr : s.resetHeld with
  | true => rw [live_held hr]
  | false =>
    rw [live_running hr, oneEvent_eq_unflagged]
    exact hf s.unflagged

/-- R183: a rising edge of LCLK writes the pins alone. -/
theorem portEdge {f : State → State} (hf : KeepsPending f) : KeepsPending fun s => (f s).portEdge := hf

theorem foldl {α : Type} {f : State → α → State} (hf : ∀ a, KeepsPending (f · a)) (as : List α) : KeepsPending (as.foldl f ·) :=
  fun s => List.foldlRecOn (motive := fun t : State => t.pending = s.pending) as f rfl fun t ht a _ => (hf a t).trans ht

end KeepsPending

/-! ### Cells that arrive, and the receiver (R4 to R16, R95 to R104, R116) -/

theorem handOn_keepsPending (p : Payload) : KeepsPending (State.handOn p) := fun s => by
  unfold State.handOn
  split <;> simp

theorem localArrival_keepsPending : KeepsPending State.localArrival := fun s => by
  unfold State.localArrival
  split <;> simp

theorem huntByte_keepsPending (b : Byte) : KeepsPending (State.huntByte b) := fun s => by
  unfold State.huntByte
  split <;> rfl

theorem presyncGood_keepsPending (n : Nat) (w : Word) : KeepsPending (State.presyncGood n w) := fun s => by
  unfold State.presyncGood
  split <;> simp

theorem syncBad_keepsPending (n : Nat) (w : Word) : KeepsPending (State.syncBad n w) := fun s => by
  unfold State.syncBad
  split <;> simp

theorem testHeader_keepsPending (w : Word) : KeepsPending (State.testHeader w) := fun s => by
  unfold State.testHeader
  split
  · split
    · rfl
    · split
      · exact presyncGood_keepsPending _ w s
      · rfl
    · split
      · rfl
      · exact syncBad_keepsPending _ w s
  · rfl

/-! ### Source events (R28 to R33) -/

theorem sourceAt_keepsPending (o : Origin) (m : Fin 128) : KeepsPending (State.sourceAt · o m) := fun s => by
  simp only [State.sourceAt]
  split
  · split <;> simp [State.expireMeter]
  · rfl

theorem takeSourceEvent_keepsPending (p : Origin → Bool) (m : Option (Fin 128)) : KeepsPending (State.takeSourceEvent p m) :=
  fun s => by
    unfold State.takeSourceEvent
    split
    · rfl
    · exact KeepsPending.foldl (sourceAt_keepsPending _) _ _

theorem takeSourceOperand_keepsPending (p : Origin → Bool) (m : Option Nat) : KeepsPending (State.takeSourceOperand p m) := fun s => by
  unfold State.takeSourceOperand
  split
  · exact takeSourceEvent_keepsPending p _ s
  · split
    · rfl
    · exact takeSourceEvent_keepsPending p _ s

theorem takeExpiry_keepsPending (m : Nat) : KeepsPending (State.takeExpiry m) := fun s => by
  unfold State.takeExpiry
  split
  · rfl
  · simp only
    split
    · exact takeSourceEvent_keepsPending _ _ s
    · rfl

/-! ### The Local Port (R113 to R115, R119) -/

theorem cutOpen_keepsPending : KeepsPending State.cutOpen := fun s => by
  unfold State.cutOpen
  split <;> simp [State.setOpen]

theorem addFirst_keepsPending (w : Word) : KeepsPending (State.addFirst w) := fun s => by
  simp only [State.addFirst]
  split <;> exact cutOpen_keepsPending s

theorem addContinue_keepsPending (w : Word) : KeepsPending (State.addContinue w) := fun s => by
  simp only [State.addContinue]
  split
  · simp
  · split <;> rfl
  · split <;> simp [State.setOpen]

theorem takeDrop_keepsPending : KeepsPending State.takeDrop := fun s => by
  simp only [State.takeDrop]
  split
  · rfl
  · split <;> rfl

/-! ### The slot and the restarts (R75, R84, R147) -/

theorem State.SelectsTo.pending {s t : State} (h : s.SelectsTo t) : t.pending = s.pending := by
  obtain ⟨_, _, _, _, _, _, _, rfl⟩ := h
  rfl

theorem slotEvent_keepsPending : KeepsPending State.slotEvent := fun s => by
  cases hin : s.cal.inTx with
  | some c => simp only [State.slotEvent, hin]
  | none =>
    obtain ⟨c, t, hselects, hevent⟩ := State.slotEvent_parts hin
    obtain ⟨flags, hadvance, -⟩ := t.advance_parts
    rw [State.slotSource_eq, State.countSlot_eq] at hselects
    rw [hevent, hadvance]
    exact hselects.pending

theorem finishTx_keepsPending (c : TxCell) : KeepsPending (State.finishTx · c) := fun s => by
  cases c with
  | pool c q => rfl
  | control k =>
    simp only [State.finishTx]
    split <;> rfl
  | idle => rfl

theorem restartTraffic_keepsPending : KeepsPending State.restartTraffic := fun s => by
  simp only [State.restartTraffic]
  split <;> split <;> simp

theorem completeSlot_keepsPending (straps : BitVec 6) : KeepsPending (State.completeSlot straps) := fun s => by
  unfold State.completeSlot
  split
  · rfl
  · next c _ =>
    split
    · exact finishTx_keepsPending c s
    · exact (restartTraffic_keepsPending _).trans (finishTx_keepsPending c s)
    · exact finishTx_keepsPending c s

theorem State.releasePin_pending (s : State) (straps : BitVec 6) : (s.releasePin straps).pending = s.pending := by
  unfold State.releasePin
  split <;> rfl

/-! ### The ticks (R132, R133, R169) -/

theorem teardown_keepsPending (i : Fin 4) : KeepsPending (State.teardown · i) := fun s => by simp

theorem sessionTick_keepsPending : KeepsPending State.sessionTick := fun s => by
  unfold State.sessionTick State.expireSessions
  split
  · rfl
  · simp only [State.hand_frame]
    exact KeepsPending.foldl teardown_keepsPending _ _

theorem takeSessionTick_keepsPending : KeepsPending State.takeSessionTick := fun s => by
  unfold State.takeSessionTick
  split
  · rfl
  · exact sessionTick_keepsPending s

theorem takeSessionExpiry_keepsPending : KeepsPending State.takeSessionExpiry := fun s => by
  unfold State.takeSessionExpiry
  split
  · rfl
  · split
    · rfl
    · exact sessionTick_keepsPending s

theorem takeEventTick_keepsPending : KeepsPending State.takeEventTick := fun s => by
  unfold State.takeEventTick
  split <;> rfl

theorem takeTimeout_keepsPending : KeepsPending State.takeTimeout := fun s => by
  unfold State.takeTimeout
  split
  · rfl
  · split <;> rfl

/-! ### Flags and reports (R162, R165 to R168) -/

theorem setFlag_keepsPending (f : EventFlag) : KeepsPending (State.setFlag f) := fun s => by
  unfold State.setFlag
  split <;> rfl

theorem buildReport_keepsPending : KeepsPending State.buildReport := fun s => by
  unfold State.buildReport
  split
  · rfl
  · split <;> rfl

theorem issueReport_keepsPending : KeepsPending State.issueReport := fun s => by
  unfold State.issueReport
  split
  · rfl
  · split <;> rfl

theorem sendingComplete_keepsPending : KeepsPending State.sendingComplete := fun s => by
  unfold State.sendingComplete
  split <;> rfl

/-! ### The execution of an intake command (R126, R128) -/

theorem KeepsPending.execution {op : Option Op} {body : Control → State → State} (hb : ∀ c, KeepsPending (body c)) :
    KeepsPending (execution op body) := fun s => by
  rcases execution_cases op body s with he | ⟨k, rest, -, -, he | ⟨-, he⟩⟩ <;> rw [he]
  · rfl
  · exact hb _ _

theorem State.advanceSeq_pending (s : State) (i : Fin 4) (n : Byte) : (s.advanceSeq i n).pending = s.pending := by
  unfold State.advanceSeq
  split <;> rfl

/-- R131: a reply is cached and joins the control egress queue. -/
theorem State.conclude_pending (s : State) (c : Control) (i : Fin 4) (d : Done) : (s.conclude c i d).pending = d.state.pending := by
  simp only [State.conclude, State.joinEgress_pending, State.cacheReply]
  split <;> rfl

/-- R128, steps 4 to 8: the steps around a command's own part do not reach the queue of waiting commands. -/
theorem inSession_keepsPending {claim : Control → Bool} {own : Control → Fin 4 → State → Done}
    (ho : ∀ c i (s : State), (own c i s).state.pending = s.pending) (c : Control) : KeepsPending (inSession claim own c) := fun s => by
  unfold inSession
  split
  · rfl
  · next i _ =>
    have hidle : (s.restartIdle i).pending = s.pending := by simp
    simp only
    split
    · exact hidle
    · split
      · have hseq : ((s.restartIdle i).advanceSeq i c.seq).pending = s.pending := (State.advanceSeq_pending _ _ _).trans hidle
        split
        · exact (State.conclude_pending _ _ _ _).trans hseq
        · exact (State.conclude_pending _ _ _ _).trans ((ho c i _).trans hseq)
      · split <;> exact hidle

/-- An intake command leaves the queue of waiting commands as it was where its own part does. -/
theorem intake_keepsPending {op : Option Op} {claim : Control → Bool} {own : Control → Fin 4 → State → Done}
    (ho : ∀ c i (s : State), (own c i s).state.pending = s.pending) : KeepsPending (live (execution op (inSession claim own))) :=
  (KeepsPending.execution (inSession_keepsPending ho)).live

/-- The same for an intake command that changes nothing of its own. -/
theorem unchanged_keepsPending {op : Option Op} {claim : Control → Bool} {own : Control → Fin 4 → State → Done}
    (ho : ∀ c i s, (own c i s).state = s) : KeepsPending (live (execution op (inSession claim own))) :=
  intake_keepsPending fun c i s => congrArg State.pending (ho c i s)

/-- The same for an intake command whose own part reaches the calendar alone. -/
theorem calendar_keepsPending {op : Option Op} {claim : Control → Bool} {own : Control → Fin 4 → State → Done}
    (ho : ∀ c i s, ∃ x, (own c i s).state = { s with cal := x }) : KeepsPending (live (execution op (inSession claim own))) :=
  intake_keepsPending fun c i s => by
    obtain ⟨x, he⟩ := ho c i s
    rw [he]

/-! ### The own parts of the intake commands -/

section
variable (c : Control) (i : Fin 4) (s : State)

theorem ownEventClear_pending : (ownEventClear c i s).state.pending = s.pending := by
  unfold ownEventClear
  split <;> rfl

theorem ownReportAck_pending : (ownReportAck c i s).state.pending = s.pending := by
  simp only [ownReportAck]
  split_ifs <;> rfl

theorem ownReportRearm_pending : (ownReportRearm c i s).state.pending = s.pending := by
  unfold ownReportRearm
  split_ifs <;> rfl

theorem ownMeterSet_pending : (ownMeterSet c i s).state.pending = s.pending := by
  unfold ownMeterSet
  split
  · rfl
  · split
    · rfl
    · split_ifs
      · rfl
      · rfl
      · rw [State.writeMeter_eq (s := s) rfl]
        rfl

theorem setRunState_pending (running : Bool) : (setRunState running c s).state.pending = s.pending := by
  unfold setRunState
  split
  · rfl
  · rw [State.setRunning_eq running _ (u := s) rfl]
    rfl

theorem ownMeterReload_pending : (ownMeterReload c i s).state.pending = s.pending := by
  unfold ownMeterReload
  split <;> rfl

theorem ownQueueSet_pending : (ownQueueSet c i s).state.pending = s.pending := by
  unfold ownQueueSet
  split
  · rfl
  · split
    · rfl
    · split <;> rfl

theorem ownClose_pending : (ownClose c i s).state.pending = s.pending := teardown_keepsPending i s

theorem ownClaim_pending : (ownClaim c i s).state.pending = s.pending := by
  unfold ownClaim
  split
  · rfl
  · split <;> rfl

theorem ownRelease_pending : (ownRelease c i s).state.pending = s.pending := by
  unfold ownRelease
  split <;> rfl

theorem ownSet_pending : (ownSet c i s).state.pending = s.pending := by
  unfold ownSet
  split
  · rfl
  · split
    · rfl
    · split <;> rfl

theorem ownRestart_pending : (ownRestart c i s).state.pending = s.pending := by
  unfold ownRestart
  split <;> rfl

theorem ownStreamAdd_pending : (ownStreamAdd c i s).state.pending = s.pending := by
  unfold ownStreamAdd
  split
  · rfl
  · split
    · rfl
    · split <;> rfl

theorem ownStreamSet_pending : (ownStreamSet c i s).state.pending = s.pending := by
  unfold ownStreamSet
  split
  · rfl
  · simp only
    split
    · rfl
    · rfl
    · split
      · rfl
      · split <;> rfl

theorem ownStreamRemove_pending : (ownStreamRemove c i s).state.pending = s.pending := by
  unfold ownStreamRemove
  split
  · rfl
  · simp only
    split
    · rfl
    · rfl
    · split <;> simp

theorem ownSnapTake_pending : (ownSnapTake c i s).state.pending = s.pending := by
  unfold ownSnapTake
  split
  · rfl
  · split
    · rfl
    · split <;> rfl

theorem ownSnapRelease_pending : (ownSnapRelease c i s).state.pending = s.pending := by
  unfold ownSnapRelease
  split
  · rfl
  · split <;> rfl

end

theorem bodyDiscover_keepsPending (c : Control) : KeepsPending (bodyDiscover c) := fun s => by
  simp only [bodyDiscover, State.sendReply]
  split <;> simp

theorem bodyOpen_keepsPending (c : Control) : KeepsPending (bodyOpen c) := fun s => by
  unfold bodyOpen
  split
  · split
    · rfl
    · split <;> simp [State.resend, State.sendReply, State.newSession]
  · split <;> rfl

/-! ### Every command, and a step on an empty queue -/

/-- Every command answers a next state, with the queue of waiting commands as it was. -/
theorem exec_keepsPending (c : Instr) (s : State) : ∃ t, exec c s = .next t ∧ t.pending = s.pending :=
  match c with
  | .powerOn => ⟨_, rfl, rfl⟩
  | .resetPinRelease straps => ⟨_, rfl, s.releasePin_pending straps⟩
  | .huntWindowTest b => ⟨_, rfl, (huntByte_keepsPending b).live s⟩
  | .headerTest w => ⟨_, rfl, (testHeader_keepsPending w).live s⟩
  | .ringCellArrival p => ⟨_, rfl, (handOn_keepsPending p).live s⟩
  | .slotSourceEvent m => ⟨_, rfl, (takeSourceOperand_keepsPending _ m).live s⟩
  | .markSourceEvent _ m => ⟨_, rfl, (takeSourceOperand_keepsPending _ m).live s⟩
  | .cascadeSourceEvent _ m => ⟨_, rfl, (takeSourceOperand_keepsPending _ m).live s⟩
  | .meterExpiry m => ⟨_, rfl, (takeExpiry_keepsPending m).live s⟩
  | .addWordFirst w => ⟨_, rfl, (addFirst_keepsPending w).portEdge.live s⟩
  | .addWordContinue w => ⟨_, rfl, (addContinue_keepsPending w).portEdge.live s⟩
  | .localCellArrival => ⟨_, rfl, localArrival_keepsPending.live s⟩
  | .dropTake => ⟨_, rfl, takeDrop_keepsPending.portEdge.live s⟩
  | .slotEvent => ⟨_, rfl, slotEvent_keepsPending.live s⟩
  | .sessionTick => ⟨_, rfl, takeSessionTick_keepsPending.live s⟩
  | .sessionExpiry => ⟨_, rfl, takeSessionExpiry_keepsPending.live s⟩
  | .eventUnitTick => ⟨_, rfl, takeEventTick_keepsPending.live s⟩
  | .reportTimeout => ⟨_, rfl, takeTimeout_keepsPending.live s⟩
  | .slotCompletion straps => ⟨_, rfl, (completeSlot_keepsPending straps).live s⟩
  | .reportSendingComplete => ⟨_, rfl, sendingComplete_keepsPending.live s⟩
  | .eventFlagSet f => ⟨_, rfl, by
      split
      · rfl
      · exact setFlag_keepsPending f s⟩
  | .reportBuild => ⟨_, rfl, buildReport_keepsPending.live s⟩
  | .reportIssue => ⟨_, rfl, issueReport_keepsPending.live s⟩
  | .badOp => ⟨_, rfl, unchanged_keepsPending (fun _ _ _ => rfl) s⟩
  | .discover => ⟨_, rfl, (KeepsPending.execution bodyDiscover_keepsPending).live s⟩
  | .openSession => ⟨_, rfl, (KeepsPending.execution bodyOpen_keepsPending).live s⟩
  | .closeSession => ⟨_, rfl, intake_keepsPending ownClose_pending s⟩
  | .ping => ⟨_, rfl, unchanged_keepsPending (fun _ _ _ => rfl) s⟩
  | .claim => ⟨_, rfl, intake_keepsPending ownClaim_pending s⟩
  | .release => ⟨_, rfl, intake_keepsPending ownRelease_pending s⟩
  | .set => ⟨_, rfl, intake_keepsPending ownSet_pending s⟩
  | .get => ⟨_, rfl, unchanged_keepsPending ownGet_state s⟩
  | .status => ⟨_, rfl, unchanged_keepsPending (fun _ _ _ => rfl) s⟩
  | .restart => ⟨_, rfl, intake_keepsPending ownRestart_pending s⟩
  | .streamAdd => ⟨_, rfl, intake_keepsPending ownStreamAdd_pending s⟩
  | .streamSet => ⟨_, rfl, intake_keepsPending ownStreamSet_pending s⟩
  | .streamRemove => ⟨_, rfl, intake_keepsPending ownStreamRemove_pending s⟩
  | .streamRead => ⟨_, rfl, unchanged_keepsPending ownStreamRead_state s⟩
  | .streamFind => ⟨_, rfl, unchanged_keepsPending ownStreamFind_state s⟩
  | .meterSet => ⟨_, rfl, intake_keepsPending ownMeterSet_pending s⟩
  | .meterRead => ⟨_, rfl, unchanged_keepsPending ownMeterRead_state s⟩
  | .meterHold => ⟨_, rfl, intake_keepsPending (fun c _ s => setRunState_pending c s false) s⟩
  | .meterRun => ⟨_, rfl, intake_keepsPending (fun c _ s => setRunState_pending c s true) s⟩
  | .meterReload => ⟨_, rfl, intake_keepsPending ownMeterReload_pending s⟩
  | .queueSet => ⟨_, rfl, intake_keepsPending ownQueueSet_pending s⟩
  | .queueRead => ⟨_, rfl, unchanged_keepsPending ownQueueRead_state s⟩
  | .calWrite => ⟨_, rfl, calendar_keepsPending ownCalWrite_calendar s⟩
  | .calLength => ⟨_, rfl, calendar_keepsPending ownCalLength_calendar s⟩
  | .calCopy => ⟨_, rfl, calendar_keepsPending ownCalCopy_calendar s⟩
  | .calRead => ⟨_, rfl, unchanged_keepsPending ownCalRead_state s⟩
  | .calCommit => ⟨_, rfl, calendar_keepsPending ownCalCommit_calendar s⟩
  | .calCancel => ⟨_, rfl, calendar_keepsPending ownCalCancel_calendar s⟩
  | .snapTake => ⟨_, rfl, intake_keepsPending ownSnapTake_pending s⟩
  | .snapRead => ⟨_, rfl, unchanged_keepsPending ownSnapRead_state s⟩
  | .snapRelease => ⟨_, rfl, intake_keepsPending ownSnapRelease_pending s⟩
  | .eventRead => ⟨_, rfl, unchanged_keepsPending (fun _ _ _ => rfl) s⟩
  | .eventClear => ⟨_, rfl, intake_keepsPending ownEventClear_pending s⟩
  | .reportAck => ⟨_, rfl, intake_keepsPending ownReportAck_pending s⟩
  | .reportRearm => ⟨_, rfl, intake_keepsPending ownReportRearm_pending s⟩

/-- A step on an empty queue is a rising edge of LCLK. -/
theorem step_of_pending_nil {s : State} (h : s.pending = []) : step s = .next s.portEdge := by simp only [step, h]

/-- Settles O2: command by command, and by the levels that an edge of LCLK puts on the two pins. -/
theorem everyCommandAnswersNext : Obligations.EveryCommandAnswersNext :=
  ⟨exec_keepsPending, fun _ h => step_of_pending_nil h⟩

end Sys2Proof.Machine
end

section
namespace Sys2Proof.Machine

/-! ### The front of the queue

With `step_of_pending_nil`, the two cases of a step. -/

/-- A step on a queue with a command at its front is that command's run, with the command taken off the queue. -/
theorem step_of_pending_cons {s : State} {c : Instr} {rest : List Instr} (h : s.pending = c :: rest) :
    step s = exec c { s with pending := rest } := by simp only [step, h]

/-- Settles O1: the case of a step in which a command waits. -/
theorem stepRunsTheFrontCommand : Obligations.StepRunsTheFrontCommand :=
  fun _ _ _ h => step_of_pending_cons h

end Sys2Proof.Machine
end
